-- ==== Sys2Proof/Word.lean ====
section
/-! DEFINITION. The two word types of the hardware (spec/00_scope.md R5: XLEN_DATA = 8, XLEN_ADDR = 16).
Their arithmetic is BitVec's own: it wraps at 0x100 and at 0x10000, as spec/10_state.md R11 asks. -/

namespace Sys2Proof

/-- An 8-bit value: `A`, `X`, `Y`, `SP`, a memory cell, an operand byte (R10, R30). -/
abbrev Byte := BitVec 8

/-- A 16-bit value: `PC` and every memory address (R12, R30). -/
abbrev Word := BitVec 16

end Sys2Proof
end

