-- ==== Sys2Proof/Config.lean ====
section
/-! DEFINITION. The parameters of the block (spec/00_scope.md R5): what the source leaves open and
spec/92_eei_decisions.md decides. Each is a named constant at the value the numbered rules state, so that a claim
can name it; where the spec spells out another value, the operations honour that value too. The three tables
`Config.opcodeMap`, `Config.baseCycles` and `Config.pagePenalty` stand in Decode.lean, beside the instructions they
are about; the widths that the source itself fixes are the types of Word.lean; the launch values are the arguments of
`State.launch`, the end of a run is `SafeFor`'s argument (Safety.lean). -/

namespace Sys2Proof.Config

/-- `STACK_BASE` (R5, R155; decision D4): the address added to `SP` to form a stack address. Log entry 10. -/
def stackBase : Word := 0x0100#16

/-- What `STACK_DISCIPLINE` settles (R5, decisions D5 and D6). -/
structure StackDiscipline where
  /-- A push decrements `SP` before it writes, or (`false`) after. -/
  pushDecrementsFirst : Bool
  /-- A pull increments `SP` before it reads, or (`false`) after, as §4.8 of the source reads word for word. -/
  pullIncrementsFirst : Bool
  /-- A 16-bit value is pushed high byte first and pulled low byte first, or (`false`) the other way round. -/
  highByteFirst : Bool
  deriving DecidableEq, Repr

/-- `STACK_DISCIPLINE` (R5, R155, R156, R161 to R164; decisions D5, D6): push: write then decrement; pull: increment
then read; high byte pushed first. Log entry 11. -/
def stackDiscipline : StackDiscipline :=
  { pushDecrementsFirst := false, pullIncrementsFirst := true, highByteFirst := true }

/-- `BRK_VECTOR` (R5, R163): the address of the vector's low byte; the high byte is one above it. -/
def brkVector : Word := 0xFFFE#16

/-- `BRK_PUSHES` (R5, R163; decision D7): whether BRK pushes `PC` and the status byte. Log entry 12. -/
def brkPushes : Bool := true

/-- `BRK_SETS_B` (R5, R163; decision D8): whether BRK sets `B` before it pushes. Log entry 12. -/
def brkSetsB : Bool := true

/-- `BRK_SETS_I` (R5, R163; decision D8): whether BRK sets `I` after it pushed. Log entry 12. -/
def brkSetsI : Bool := true

/-- `PLA_SETS_NZ` (R5, R158; decision D9): whether PLA updates `N` and `Z`. Log entry 13. -/
def plaSetsNZ : Bool := true

/-- How many operand bytes the Indirect addressing mode may have (R5; decision D10, 90_conflicts.md C8). -/
inductive IndirectPtrBytes where
  /-- One: a zero-page pointer. -/
  | one
  /-- Two, low byte first: a pointer anywhere, the format of a MOS 6502. -/
  | two
  deriving DecidableEq, Repr

/-- The number itself. -/
def IndirectPtrBytes.toNat : IndirectPtrBytes → Nat
  | .one => 1
  | .two => 2

/-- `INDIRECT_PTR_BYTES` (R5, R51, R83; decision D10). Log entry 14. -/
def indirectPtrBytes : IndirectPtrBytes := .one

/-- `PTR_WRAP` (R5, R35; decision D11): whether the second byte of a 16-bit pointer fetch is read inside the page of
the first (`true`) or at pointer + 1 mod 65536 (`false`). Log entry 15. -/
def ptrWrapsInPage : Bool := false

/-- `ADMIT_JMP_BIT` (R5, R59; decision D2): whether the opcodes 0x24, 0x2C, 0x4C and 0x6C are assigned.
Log entry 9. -/
def admitJmpBit : Bool := true

/-- The readings of `INVALID_OPCODE_POLICY` that decision D3 names. -/
inductive InvalidOpcodePolicy where
  /-- The step reports `InvalidOpcode`, with `PC` advanced by one and nothing else changed (R201). -/
  | raise
  /-- The step carries on as a no-operation of zero cycles (the original's fall-through, which D3 sets aside). -/
  | silentNoOp
  deriving DecidableEq, Repr

/-- `INVALID_OPCODE_POLICY` (R5, R201; decision D3). Log entry 5. -/
def invalidOpcodePolicy : InvalidOpcodePolicy := .raise

/-- `ADDRESS_POLICY` (R5, R32; decision D16): the address that a computed address, an exact number, stands for: it is
reduced mod 65536. That every number has one says that `AddressOutOfRange` is never raised (R202). Log entry 21. -/
def addressPolicy (exact : Nat) : Word := BitVec.ofNat 16 exact

/-- The readings of `SBC_V_RULE` that decision D13 names. -/
inductive SbcVRule where
  /-- `V` is the signed overflow of `A - m - borrow` (R101). -/
  | signedOverflow
  /-- `V` is ADC's formula on the two's complement of the operand (the reading D13 sets aside). -/
  | negatedOperand
  deriving DecidableEq, Repr

/-- `SBC_V_RULE` (R5, R101; decision D13). Log entry 16. -/
def sbcVRule : SbcVRule := .signedOverflow

/-- The readings of `DECIMAL_FLAGS` that decision D14 names, as far as they differ (in `N`). -/
inductive DecimalFlags where
  /-- `N` is bit 7 of the stored BCD result (R100, R101; 90_conflicts.md C1). -/
  | storedResult
  /-- `N` is bit 7 of the binary-mode result (what §9 of the source would also allow). -/
  | binaryMode
  deriving DecidableEq, Repr

/-- `DECIMAL_FLAGS` (R5, R100, R101; decision D14). Log entry 17. -/
def decimalFlags : DecimalFlags := .storedResult

/-- `BCD_INVALID_NIBBLE` (R5, R102; decision D15): the number a byte stands for in decimal mode when one of its
nibbles is above 9. R102 extends the formula of the valid bytes. A claim about invalid BCD rests on this name.
Log entry 18. -/
def bcdOfInvalid (b : Byte) : Nat := 10 * (b.toNat / 16) + b.toNat % 16

/-- The readings of `BRANCH_CROSS_REF` that decision D28 names. -/
inductive BranchRef where
  /-- The address of the instruction after the branch (R79). -/
  | nextInstruction
  /-- The address of the branch's own opcode. -/
  | branchOpcode
  deriving DecidableEq, Repr

/-- `BRANCH_CROSS_REF` (R5, R79; decision D28): what a branch target's page is compared with. Log entry 20. -/
def branchCrossRef : BranchRef := .nextInstruction

/-- What a byte of memory that no cell is listed for reads as. The spec leaves the launch contents of memory to the
host (R23). DESIGN CHOICE, unsafe: log entry 2. -/
def unlistedByte : Byte := 0x00#8

end Sys2Proof.Config
end

