-- ==== Sys2Proof/Syntax.lean ====
section
/-! DEFINITION. The instructions as syntax: one constructor of `Instr` for each of the 151 rows of
spec/opcode_table.json (spec/30_encoding.md R54), and the names a row is made of: its mnemonic and its addressing
mode with the operand bytes (R51, R52). -/

namespace Sys2Proof

/-- The 56 mnemonics (R54, R58), in the order of R54's table. -/
inductive Mnemonic where
  /-- ADC: add with carry (R100). -/
  | adc
  /-- SBC: subtract with borrow (R101). -/
  | sbc
  /-- AND: bitwise and (R110). -/
  | and
  /-- ORA: bitwise inclusive or (R111). -/
  | ora
  /-- EOR: bitwise exclusive or (R112). -/
  | eor
  /-- ASL: arithmetic shift left (R113). -/
  | asl
  /-- LSR: logical shift right (R114). -/
  | lsr
  /-- ROL: rotate left through carry (R115). -/
  | rol
  /-- ROR: rotate right through carry (R116). -/
  | ror
  /-- BIT: test bits (R117). -/
  | bit
  /-- CMP: compare A (R125). -/
  | cmp
  /-- CPX: compare X (R126). -/
  | cpx
  /-- CPY: compare Y (R127). -/
  | cpy
  /-- INC: increment memory (R128). -/
  | inc
  /-- DEC: decrement memory (R129). -/
  | dec
  /-- INX: increment X (R130). -/
  | inx
  /-- DEX: decrement X (R131). -/
  | dex
  /-- INY: increment Y (R132). -/
  | iny
  /-- DEY: decrement Y (R133). -/
  | dey
  /-- BCC: branch if carry clear (R141). -/
  | bcc
  /-- BCS: branch if carry set (R142). -/
  | bcs
  /-- BEQ: branch if zero set (R143). -/
  | beq
  /-- BNE: branch if zero clear (R144). -/
  | bne
  /-- BMI: branch if negative set (R145). -/
  | bmi
  /-- BPL: branch if negative clear (R146). -/
  | bpl
  /-- BVC: branch if overflow clear (R147). -/
  | bvc
  /-- BVS: branch if overflow set (R148). -/
  | bvs
  /-- JMP: jump (R149). -/
  | jmp
  /-- PHA: push A (R157). -/
  | pha
  /-- PLA: pull A (R158). -/
  | pla
  /-- PHP: push the status byte (R159). -/
  | php
  /-- PLP: pull the status byte (R160). -/
  | plp
  /-- JSR: jump to subroutine (R161). -/
  | jsr
  /-- RTS: return from subroutine (R162). -/
  | rts
  /-- BRK: software interrupt (R163). -/
  | brk
  /-- RTI: return from interrupt (R164). -/
  | rti
  /-- LDA: load A (R170). -/
  | lda
  /-- LDX: load X (R171). -/
  | ldx
  /-- LDY: load Y (R172). -/
  | ldy
  /-- STA: store A (R173). -/
  | sta
  /-- STX: store X (R174). -/
  | stx
  /-- STY: store Y (R175). -/
  | sty
  /-- TAX: copy A to X (R176). -/
  | tax
  /-- TAY: copy A to Y (R177). -/
  | tay
  /-- TXA: copy X to A (R178). -/
  | txa
  /-- TYA: copy Y to A (R179). -/
  | tya
  /-- TSX: copy SP to X (R180). -/
  | tsx
  /-- TXS: copy X to SP (R181). -/
  | txs
  /-- SEC: set C (R182). -/
  | sec
  /-- CLC: clear C (R183). -/
  | clc
  /-- SEI: set I (R184). -/
  | sei
  /-- CLI: clear I (R185). -/
  | cli
  /-- SED: set D (R186). -/
  | sed
  /-- CLD: clear D (R187). -/
  | cld
  /-- CLV: clear V (R188). -/
  | clv
  /-- NOP: no operation (R189). -/
  | nop
  deriving DecidableEq, Repr

/-- The nine addressing modes that resolve to the address of a memory byte (R76 to R78, R80 to R85), each with its
operand bytes as the resolver has assembled them (R52). -/
inductive MemMode where
  /-- Zero page (R76). -/
  | zp (z : Byte)
  /-- Zero page,X (R77). -/
  | zpx (z : Byte)
  /-- Zero page,Y (R78). -/
  | zpy (z : Byte)
  /-- Absolute (R80). -/
  | abs (addr : Word)
  /-- Absolute,X (R81). -/
  | abx (addr : Word)
  /-- Absolute,Y (R82). -/
  | aby (addr : Word)
  /-- Indirect (R83): a pointer. It is one operand byte, so a zero-page address (R51), where INDIRECT_PTR_BYTES is 1. -/
  | ind (ptr : Word)
  /-- Indexed indirect (R84). -/
  | izx (ptr : Byte)
  /-- Indirect indexed (R85). -/
  | izy (ptr : Byte)
  deriving DecidableEq, Repr

/-- The thirteen formats of R51, with their operand bytes. -/
inductive Mode where
  /-- Implied: no operand byte, no resolver (R73). -/
  | imp
  /-- Accumulator: no operand byte, the instruction works on `A` (R74). -/
  | acc
  /-- Immediate: the operand byte itself (R75). -/
  | imm (v : Byte)
  /-- Relative: one signed offset byte (R79). -/
  | rel (off : Byte)
  /-- A mode that resolves to a memory byte. -/
  | mem (m : MemMode)
  deriving DecidableEq, Repr

/-- Where an instruction that reads one operand byte takes it from. -/
inductive Source where
  | imm (v : Byte)
  | mem (m : MemMode)
  deriving DecidableEq, Repr

/-- What a shift or rotate works on (R118): `A`, or a memory byte. -/
inductive Target where
  | acc
  | mem (m : MemMode)
  deriving DecidableEq, Repr

/-- The mode of an instruction that reads its operand from `src`. -/
def Source.mode : Source → Mode
  | .imm v => .imm v
  | .mem m => .mem m

/-- The mode of a shift or rotate of `t`. -/
def Target.mode : Target → Mode
  | .acc => .acc
  | .mem m => .mem m

/-- The instructions: one constructor per assigned opcode byte (R54). -/
inductive Instr where
  /-- ADC IMM, opcode 0x69 (R100, R75). -/
  | adcImm (v : Byte)
  /-- ADC ZP, opcode 0x65 (R100, R76). -/
  | adcZp (z : Byte)
  /-- ADC ZPX, opcode 0x75 (R100, R77). -/
  | adcZpx (z : Byte)
  /-- ADC ABS, opcode 0x6D (R100, R80). -/
  | adcAbs (addr : Word)
  /-- ADC ABX, opcode 0x7D (R100, R81). -/
  | adcAbx (addr : Word)
  /-- ADC ABY, opcode 0x79 (R100, R82). -/
  | adcAby (addr : Word)
  /-- ADC IZX, opcode 0x61 (R100, R84). -/
  | adcIzx (ptr : Byte)
  /-- ADC IZY, opcode 0x71 (R100, R85). -/
  | adcIzy (ptr : Byte)
  /-- SBC IMM, opcode 0xE9 (R101, R75). -/
  | sbcImm (v : Byte)
  /-- SBC ZP, opcode 0xE5 (R101, R76). -/
  | sbcZp (z : Byte)
  /-- SBC ZPX, opcode 0xF5 (R101, R77). -/
  | sbcZpx (z : Byte)
  /-- SBC ABS, opcode 0xED (R101, R80). -/
  | sbcAbs (addr : Word)
  /-- SBC ABX, opcode 0xFD (R101, R81). -/
  | sbcAbx (addr : Word)
  /-- SBC ABY, opcode 0xF9 (R101, R82). -/
  | sbcAby (addr : Word)
  /-- SBC IZX, opcode 0xE1 (R101, R84). -/
  | sbcIzx (ptr : Byte)
  /-- SBC IZY, opcode 0xF1 (R101, R85). -/
  | sbcIzy (ptr : Byte)
  /-- AND IMM, opcode 0x29 (R110, R75). -/
  | andImm (v : Byte)
  /-- AND ZP, opcode 0x25 (R110, R76). -/
  | andZp (z : Byte)
  /-- AND ZPX, opcode 0x35 (R110, R77). -/
  | andZpx (z : Byte)
  /-- AND ABS, opcode 0x2D (R110, R80). -/
  | andAbs (addr : Word)
  /-- AND ABX, opcode 0x3D (R110, R81). -/
  | andAbx (addr : Word)
  /-- AND ABY, opcode 0x39 (R110, R82). -/
  | andAby (addr : Word)
  /-- AND IZX, opcode 0x21 (R110, R84). -/
  | andIzx (ptr : Byte)
  /-- AND IZY, opcode 0x31 (R110, R85). -/
  | andIzy (ptr : Byte)
  /-- ORA IMM, opcode 0x09 (R111, R75). -/
  | oraImm (v : Byte)
  /-- ORA ZP, opcode 0x05 (R111, R76). -/
  | oraZp (z : Byte)
  /-- ORA ZPX, opcode 0x15 (R111, R77). -/
  | oraZpx (z : Byte)
  /-- ORA ABS, opcode 0x0D (R111, R80). -/
  | oraAbs (addr : Word)
  /-- ORA ABX, opcode 0x1D (R111, R81). -/
  | oraAbx (addr : Word)
  /-- ORA ABY, opcode 0x19 (R111, R82). -/
  | oraAby (addr : Word)
  /-- ORA IZX, opcode 0x01 (R111, R84). -/
  | oraIzx (ptr : Byte)
  /-- ORA IZY, opcode 0x11 (R111, R85). -/
  | oraIzy (ptr : Byte)
  /-- EOR IMM, opcode 0x49 (R112, R75). -/
  | eorImm (v : Byte)
  /-- EOR ZP, opcode 0x45 (R112, R76). -/
  | eorZp (z : Byte)
  /-- EOR ZPX, opcode 0x55 (R112, R77). -/
  | eorZpx (z : Byte)
  /-- EOR ABS, opcode 0x4D (R112, R80). -/
  | eorAbs (addr : Word)
  /-- EOR ABX, opcode 0x5D (R112, R81). -/
  | eorAbx (addr : Word)
  /-- EOR ABY, opcode 0x59 (R112, R82). -/
  | eorAby (addr : Word)
  /-- EOR IZX, opcode 0x41 (R112, R84). -/
  | eorIzx (ptr : Byte)
  /-- EOR IZY, opcode 0x51 (R112, R85). -/
  | eorIzy (ptr : Byte)
  /-- ASL ACC, opcode 0x0A (R113, R74). -/
  | aslAcc
  /-- ASL ZP, opcode 0x06 (R113, R76). -/
  | aslZp (z : Byte)
  /-- ASL ZPX, opcode 0x16 (R113, R77). -/
  | aslZpx (z : Byte)
  /-- ASL ABS, opcode 0x0E (R113, R80). -/
  | aslAbs (addr : Word)
  /-- ASL ABX, opcode 0x1E (R113, R81). -/
  | aslAbx (addr : Word)
  /-- LSR ACC, opcode 0x4A (R114, R74). -/
  | lsrAcc
  /-- LSR ZP, opcode 0x46 (R114, R76). -/
  | lsrZp (z : Byte)
  /-- LSR ZPX, opcode 0x56 (R114, R77). -/
  | lsrZpx (z : Byte)
  /-- LSR ABS, opcode 0x4E (R114, R80). -/
  | lsrAbs (addr : Word)
  /-- LSR ABX, opcode 0x5E (R114, R81). -/
  | lsrAbx (addr : Word)
  /-- ROL ACC, opcode 0x2A (R115, R74). -/
  | rolAcc
  /-- ROL ZP, opcode 0x26 (R115, R76). -/
  | rolZp (z : Byte)
  /-- ROL ZPX, opcode 0x36 (R115, R77). -/
  | rolZpx (z : Byte)
  /-- ROL ABS, opcode 0x2E (R115, R80). -/
  | rolAbs (addr : Word)
  /-- ROL ABX, opcode 0x3E (R115, R81). -/
  | rolAbx (addr : Word)
  /-- ROR ACC, opcode 0x6A (R116, R74). -/
  | rorAcc
  /-- ROR ZP, opcode 0x66 (R116, R76). -/
  | rorZp (z : Byte)
  /-- ROR ZPX, opcode 0x76 (R116, R77). -/
  | rorZpx (z : Byte)
  /-- ROR ABS, opcode 0x6E (R116, R80). -/
  | rorAbs (addr : Word)
  /-- ROR ABX, opcode 0x7E (R116, R81). -/
  | rorAbx (addr : Word)
  /-- BIT ZP, opcode 0x24 (R117, R76). -/
  | bitZp (z : Byte)
  /-- BIT ABS, opcode 0x2C (R117, R80). -/
  | bitAbs (addr : Word)
  /-- CMP IMM, opcode 0xC9 (R125, R75). -/
  | cmpImm (v : Byte)
  /-- CMP ZP, opcode 0xC5 (R125, R76). -/
  | cmpZp (z : Byte)
  /-- CMP ZPX, opcode 0xD5 (R125, R77). -/
  | cmpZpx (z : Byte)
  /-- CMP ABS, opcode 0xCD (R125, R80). -/
  | cmpAbs (addr : Word)
  /-- CMP ABX, opcode 0xDD (R125, R81). -/
  | cmpAbx (addr : Word)
  /-- CMP ABY, opcode 0xD9 (R125, R82). -/
  | cmpAby (addr : Word)
  /-- CMP IZX, opcode 0xC1 (R125, R84). -/
  | cmpIzx (ptr : Byte)
  /-- CMP IZY, opcode 0xD1 (R125, R85). -/
  | cmpIzy (ptr : Byte)
  /-- CPX IMM, opcode 0xE0 (R126, R75). -/
  | cpxImm (v : Byte)
  /-- CPX ZP, opcode 0xE4 (R126, R76). -/
  | cpxZp (z : Byte)
  /-- CPX ABS, opcode 0xEC (R126, R80). -/
  | cpxAbs (addr : Word)
  /-- CPY IMM, opcode 0xC0 (R127, R75). -/
  | cpyImm (v : Byte)
  /-- CPY ZP, opcode 0xC4 (R127, R76). -/
  | cpyZp (z : Byte)
  /-- CPY ABS, opcode 0xCC (R127, R80). -/
  | cpyAbs (addr : Word)
  /-- INC ZP, opcode 0xE6 (R128, R76). -/
  | incZp (z : Byte)
  /-- INC ZPX, opcode 0xF6 (R128, R77). -/
  | incZpx (z : Byte)
  /-- INC ABS, opcode 0xEE (R128, R80). -/
  | incAbs (addr : Word)
  /-- INC ABX, opcode 0xFE (R128, R81). -/
  | incAbx (addr : Word)
  /-- DEC ZP, opcode 0xC6 (R129, R76). -/
  | decZp (z : Byte)
  /-- DEC ZPX, opcode 0xD6 (R129, R77). -/
  | decZpx (z : Byte)
  /-- DEC ABS, opcode 0xCE (R129, R80). -/
  | decAbs (addr : Word)
  /-- DEC ABX, opcode 0xDE (R129, R81). -/
  | decAbx (addr : Word)
  /-- INX IMP, opcode 0xE8 (R130, R73). -/
  | inx
  /-- DEX IMP, opcode 0xCA (R131, R73). -/
  | dex
  /-- INY IMP, opcode 0xC8 (R132, R73). -/
  | iny
  /-- DEY IMP, opcode 0x88 (R133, R73). -/
  | dey
  /-- BCC REL, opcode 0x90 (R141, R79). -/
  | bcc (off : Byte)
  /-- BCS REL, opcode 0xB0 (R142, R79). -/
  | bcs (off : Byte)
  /-- BEQ REL, opcode 0xF0 (R143, R79). -/
  | beq (off : Byte)
  /-- BNE REL, opcode 0xD0 (R144, R79). -/
  | bne (off : Byte)
  /-- BMI REL, opcode 0x30 (R145, R79). -/
  | bmi (off : Byte)
  /-- BPL REL, opcode 0x10 (R146, R79). -/
  | bpl (off : Byte)
  /-- BVC REL, opcode 0x50 (R147, R79). -/
  | bvc (off : Byte)
  /-- BVS REL, opcode 0x70 (R148, R79). -/
  | bvs (off : Byte)
  /-- JMP ABS, opcode 0x4C (R149, R80). -/
  | jmpAbs (addr : Word)
  /-- JMP IND, opcode 0x6C (R149, R83). -/
  | jmpInd (ptr : Word)
  /-- PHA IMP, opcode 0x48 (R157, R73). -/
  | pha
  /-- PLA IMP, opcode 0x68 (R158, R73). -/
  | pla
  /-- PHP IMP, opcode 0x08 (R159, R73). -/
  | php
  /-- PLP IMP, opcode 0x28 (R160, R73). -/
  | plp
  /-- JSR ABS, opcode 0x20 (R161, R80). -/
  | jsr (addr : Word)
  /-- RTS IMP, opcode 0x60 (R162, R73). -/
  | rts
  /-- BRK IMP, opcode 0x00 (R163, R73). -/
  | brk
  /-- RTI IMP, opcode 0x40 (R164, R73). -/
  | rti
  /-- LDA IMM, opcode 0xA9 (R170, R75). -/
  | ldaImm (v : Byte)
  /-- LDA ZP, opcode 0xA5 (R170, R76). -/
  | ldaZp (z : Byte)
  /-- LDA ZPX, opcode 0xB5 (R170, R77). -/
  | ldaZpx (z : Byte)
  /-- LDA ABS, opcode 0xAD (R170, R80). -/
  | ldaAbs (addr : Word)
  /-- LDA ABX, opcode 0xBD (R170, R81). -/
  | ldaAbx (addr : Word)
  /-- LDA ABY, opcode 0xB9 (R170, R82). -/
  | ldaAby (addr : Word)
  /-- LDA IZX, opcode 0xA1 (R170, R84). -/
  | ldaIzx (ptr : Byte)
  /-- LDA IZY, opcode 0xB1 (R170, R85). -/
  | ldaIzy (ptr : Byte)
  /-- LDX IMM, opcode 0xA2 (R171, R75). -/
  | ldxImm (v : Byte)
  /-- LDX ZP, opcode 0xA6 (R171, R76). -/
  | ldxZp (z : Byte)
  /-- LDX ZPY, opcode 0xB6 (R171, R78). -/
  | ldxZpy (z : Byte)
  /-- LDX ABS, opcode 0xAE (R171, R80). -/
  | ldxAbs (addr : Word)
  /-- LDX ABY, opcode 0xBE (R171, R82). -/
  | ldxAby (addr : Word)
  /-- LDY IMM, opcode 0xA0 (R172, R75). -/
  | ldyImm (v : Byte)
  /-- LDY ZP, opcode 0xA4 (R172, R76). -/
  | ldyZp (z : Byte)
  /-- LDY ZPX, opcode 0xB4 (R172, R77). -/
  | ldyZpx (z : Byte)
  /-- LDY ABS, opcode 0xAC (R172, R80). -/
  | ldyAbs (addr : Word)
  /-- LDY ABX, opcode 0xBC (R172, R81). -/
  | ldyAbx (addr : Word)
  /-- STA ZP, opcode 0x85 (R173, R76). -/
  | staZp (z : Byte)
  /-- STA ZPX, opcode 0x95 (R173, R77). -/
  | staZpx (z : Byte)
  /-- STA ABS, opcode 0x8D (R173, R80). -/
  | staAbs (addr : Word)
  /-- STA ABX, opcode 0x9D (R173, R81). -/
  | staAbx (addr : Word)
  /-- STA ABY, opcode 0x99 (R173, R82). -/
  | staAby (addr : Word)
  /-- STA IZX, opcode 0x81 (R173, R84). -/
  | staIzx (ptr : Byte)
  /-- STA IZY, opcode 0x91 (R173, R85). -/
  | staIzy (ptr : Byte)
  /-- STX ZP, opcode 0x86 (R174, R76). -/
  | stxZp (z : Byte)
  /-- STX ZPY, opcode 0x96 (R174, R78). -/
  | stxZpy (z : Byte)
  /-- STX ABS, opcode 0x8E (R174, R80). -/
  | stxAbs (addr : Word)
  /-- STY ZP, opcode 0x84 (R175, R76). -/
  | styZp (z : Byte)
  /-- STY ZPX, opcode 0x94 (R175, R77). -/
  | styZpx (z : Byte)
  /-- STY ABS, opcode 0x8C (R175, R80). -/
  | styAbs (addr : Word)
  /-- TAX IMP, opcode 0xAA (R176, R73). -/
  | tax
  /-- TAY IMP, opcode 0xA8 (R177, R73). -/
  | tay
  /-- TXA IMP, opcode 0x8A (R178, R73). -/
  | txa
  /-- TYA IMP, opcode 0x98 (R179, R73). -/
  | tya
  /-- TSX IMP, opcode 0xBA (R180, R73). -/
  | tsx
  /-- TXS IMP, opcode 0x9A (R181, R73). -/
  | txs
  /-- SEC IMP, opcode 0x38 (R182, R73). -/
  | sec
  /-- CLC IMP, opcode 0x18 (R183, R73). -/
  | clc
  /-- SEI IMP, opcode 0x78 (R184, R73). -/
  | sei
  /-- CLI IMP, opcode 0x58 (R185, R73). -/
  | cli
  /-- SED IMP, opcode 0xF8 (R186, R73). -/
  | sed
  /-- CLD IMP, opcode 0xD8 (R187, R73). -/
  | cld
  /-- CLV IMP, opcode 0xB8 (R188, R73). -/
  | clv
  /-- NOP IMP, opcode 0xEA (R189, R73). -/
  | nop
  deriving DecidableEq, Repr

end Sys2Proof
end

