-- ==== Sys2Proof/WellFormed.lean ====
section
/-! DEFINITION. Which terms of `Instr` are instructions of this machine. Every operand byte may hold every value
(spec/30_encoding.md R56) and every constructor is one assigned opcode, so the types leave two things to check: JMP and
BIT are instructions only where the parameter ADMIT_JMP_BIT is true (R59, decision D2), and the pointer of the indirect
JMP fits in the operand bytes that INDIRECT_PTR_BYTES gives it (R51, decision D10). -/

namespace Sys2Proof

/-- Whether a pointer fits in the operand bytes of the Indirect mode: one byte holds a zero-page address (R51, R83). -/
def pointerFits : Config.IndirectPtrBytes → Word → Bool
  | .one, p => decide (p.toNat < 256)
  | .two, _ => true

/-- The four opcodes that R59 admits are taken out where `jmpBit` is false; an indirect JMP has a pointer of `n`
bytes. -/
def wellFormedUnder (jmpBit : Bool) (n : Config.IndirectPtrBytes) : Instr → Bool
  | .bitZp _ | .bitAbs _ | .jmpAbs _ => jmpBit
  | .jmpInd p => jmpBit && pointerFits n p
  | _ => true

/-- The well-formed instructions of this machine: all 151 opcodes, since R59 sets ADMIT_JMP_BIT true, with a zero-page
pointer in the indirect JMP (R83). -/
def WellFormed (i : Instr) : Bool := wellFormedUnder Config.admitJmpBit Config.indirectPtrBytes i

end Sys2Proof
end

