-- ==== Sys2Proof/Decode.lean ====
section
/-! DEFINITION. The opcode table (spec/30_encoding.md R53, R54) read both ways: `entry`, the tuple (opcode,
instruction, addressing mode, base cycles, page penalty) of every instruction, with the encoder made from it; and
`Config.opcodeMap`, what each assigned byte stands for, with the decoder made from it. The decoder is total on any
bytes; an unassigned byte (R55) is rejected by name. The parameters OPCODE_MAP, BASE_CYCLES and PAGE_PENALTY of R5 are
these tables, so they are named here and not in Config.lean. -/

namespace Sys2Proof

/-! ## Bytes of a 16-bit value (R34, R52) -/

/-- The concatenation of a high and a low byte (R6). -/
def pair (hi lo : Byte) : Word := hi ++ lo

/-- Bits 7 to 0 of a word. -/
def loByte (w : Word) : Byte := w.extractLsb' 0 8

/-- Bits 15 to 8 of a word. -/
def hiByte (w : Word) : Byte := w.extractLsb' 8 8

/-! ## The table by instruction -/

/-- One assigned entry of the opcode table (R53), with the opcode byte that selects it. -/
structure Entry where
  opcode : Byte
  mnemonic : Mnemonic
  mode : Mode
  /-- Base cycle count (R54, R71). -/
  base : Nat
  /-- Whether a page crossing costs one more cycle (R54, R71). -/
  penalty : Bool
  deriving DecidableEq, Repr

/-- The row of R54 an instruction stands in. -/
def entry : Instr → Entry
  | .adcImm v => ⟨0x69#8, .adc, .imm v, 2, false⟩
  | .adcZp z => ⟨0x65#8, .adc, .mem (.zp z), 3, false⟩
  | .adcZpx z => ⟨0x75#8, .adc, .mem (.zpx z), 4, false⟩
  | .adcAbs addr => ⟨0x6D#8, .adc, .mem (.abs addr), 4, false⟩
  | .adcAbx addr => ⟨0x7D#8, .adc, .mem (.abx addr), 4, true⟩
  | .adcAby addr => ⟨0x79#8, .adc, .mem (.aby addr), 4, true⟩
  | .adcIzx ptr => ⟨0x61#8, .adc, .mem (.izx ptr), 6, false⟩
  | .adcIzy ptr => ⟨0x71#8, .adc, .mem (.izy ptr), 5, true⟩
  | .sbcImm v => ⟨0xE9#8, .sbc, .imm v, 2, false⟩
  | .sbcZp z => ⟨0xE5#8, .sbc, .mem (.zp z), 3, false⟩
  | .sbcZpx z => ⟨0xF5#8, .sbc, .mem (.zpx z), 4, false⟩
  | .sbcAbs addr => ⟨0xED#8, .sbc, .mem (.abs addr), 4, false⟩
  | .sbcAbx addr => ⟨0xFD#8, .sbc, .mem (.abx addr), 4, true⟩
  | .sbcAby addr => ⟨0xF9#8, .sbc, .mem (.aby addr), 4, true⟩
  | .sbcIzx ptr => ⟨0xE1#8, .sbc, .mem (.izx ptr), 6, false⟩
  | .sbcIzy ptr => ⟨0xF1#8, .sbc, .mem (.izy ptr), 5, true⟩
  | .andImm v => ⟨0x29#8, .and, .imm v, 2, false⟩
  | .andZp z => ⟨0x25#8, .and, .mem (.zp z), 3, false⟩
  | .andZpx z => ⟨0x35#8, .and, .mem (.zpx z), 4, false⟩
  | .andAbs addr => ⟨0x2D#8, .and, .mem (.abs addr), 4, false⟩
  | .andAbx addr => ⟨0x3D#8, .and, .mem (.abx addr), 4, true⟩
  | .andAby addr => ⟨0x39#8, .and, .mem (.aby addr), 4, true⟩
  | .andIzx ptr => ⟨0x21#8, .and, .mem (.izx ptr), 6, false⟩
  | .andIzy ptr => ⟨0x31#8, .and, .mem (.izy ptr), 5, true⟩
  | .oraImm v => ⟨0x09#8, .ora, .imm v, 2, false⟩
  | .oraZp z => ⟨0x05#8, .ora, .mem (.zp z), 3, false⟩
  | .oraZpx z => ⟨0x15#8, .ora, .mem (.zpx z), 4, false⟩
  | .oraAbs addr => ⟨0x0D#8, .ora, .mem (.abs addr), 4, false⟩
  | .oraAbx addr => ⟨0x1D#8, .ora, .mem (.abx addr), 4, true⟩
  | .oraAby addr => ⟨0x19#8, .ora, .mem (.aby addr), 4, true⟩
  | .oraIzx ptr => ⟨0x01#8, .ora, .mem (.izx ptr), 6, false⟩
  | .oraIzy ptr => ⟨0x11#8, .ora, .mem (.izy ptr), 5, true⟩
  | .eorImm v => ⟨0x49#8, .eor, .imm v, 2, false⟩
  | .eorZp z => ⟨0x45#8, .eor, .mem (.zp z), 3, false⟩
  | .eorZpx z => ⟨0x55#8, .eor, .mem (.zpx z), 4, false⟩
  | .eorAbs addr => ⟨0x4D#8, .eor, .mem (.abs addr), 4, false⟩
  | .eorAbx addr => ⟨0x5D#8, .eor, .mem (.abx addr), 4, true⟩
  | .eorAby addr => ⟨0x59#8, .eor, .mem (.aby addr), 4, true⟩
  | .eorIzx ptr => ⟨0x41#8, .eor, .mem (.izx ptr), 6, false⟩
  | .eorIzy ptr => ⟨0x51#8, .eor, .mem (.izy ptr), 5, true⟩
  | .aslAcc => ⟨0x0A#8, .asl, .acc, 2, false⟩
  | .aslZp z => ⟨0x06#8, .asl, .mem (.zp z), 5, false⟩
  | .aslZpx z => ⟨0x16#8, .asl, .mem (.zpx z), 6, false⟩
  | .aslAbs addr => ⟨0x0E#8, .asl, .mem (.abs addr), 6, false⟩
  | .aslAbx addr => ⟨0x1E#8, .asl, .mem (.abx addr), 7, false⟩
  | .lsrAcc => ⟨0x4A#8, .lsr, .acc, 2, false⟩
  | .lsrZp z => ⟨0x46#8, .lsr, .mem (.zp z), 5, false⟩
  | .lsrZpx z => ⟨0x56#8, .lsr, .mem (.zpx z), 6, false⟩
  | .lsrAbs addr => ⟨0x4E#8, .lsr, .mem (.abs addr), 6, false⟩
  | .lsrAbx addr => ⟨0x5E#8, .lsr, .mem (.abx addr), 7, false⟩
  | .rolAcc => ⟨0x2A#8, .rol, .acc, 2, false⟩
  | .rolZp z => ⟨0x26#8, .rol, .mem (.zp z), 5, false⟩
  | .rolZpx z => ⟨0x36#8, .rol, .mem (.zpx z), 6, false⟩
  | .rolAbs addr => ⟨0x2E#8, .rol, .mem (.abs addr), 6, false⟩
  | .rolAbx addr => ⟨0x3E#8, .rol, .mem (.abx addr), 7, false⟩
  | .rorAcc => ⟨0x6A#8, .ror, .acc, 2, false⟩
  | .rorZp z => ⟨0x66#8, .ror, .mem (.zp z), 5, false⟩
  | .rorZpx z => ⟨0x76#8, .ror, .mem (.zpx z), 6, false⟩
  | .rorAbs addr => ⟨0x6E#8, .ror, .mem (.abs addr), 6, false⟩
  | .rorAbx addr => ⟨0x7E#8, .ror, .mem (.abx addr), 7, false⟩
  | .bitZp z => ⟨0x24#8, .bit, .mem (.zp z), 3, false⟩
  | .bitAbs addr => ⟨0x2C#8, .bit, .mem (.abs addr), 4, false⟩
  | .cmpImm v => ⟨0xC9#8, .cmp, .imm v, 2, false⟩
  | .cmpZp z => ⟨0xC5#8, .cmp, .mem (.zp z), 3, false⟩
  | .cmpZpx z => ⟨0xD5#8, .cmp, .mem (.zpx z), 4, false⟩
  | .cmpAbs addr => ⟨0xCD#8, .cmp, .mem (.abs addr), 4, false⟩
  | .cmpAbx addr => ⟨0xDD#8, .cmp, .mem (.abx addr), 4, true⟩
  | .cmpAby addr => ⟨0xD9#8, .cmp, .mem (.aby addr), 4, true⟩
  | .cmpIzx ptr => ⟨0xC1#8, .cmp, .mem (.izx ptr), 6, false⟩
  | .cmpIzy ptr => ⟨0xD1#8, .cmp, .mem (.izy ptr), 5, true⟩
  | .cpxImm v => ⟨0xE0#8, .cpx, .imm v, 2, false⟩
  | .cpxZp z => ⟨0xE4#8, .cpx, .mem (.zp z), 3, false⟩
  | .cpxAbs addr => ⟨0xEC#8, .cpx, .mem (.abs addr), 4, false⟩
  | .cpyImm v => ⟨0xC0#8, .cpy, .imm v, 2, false⟩
  | .cpyZp z => ⟨0xC4#8, .cpy, .mem (.zp z), 3, false⟩
  | .cpyAbs addr => ⟨0xCC#8, .cpy, .mem (.abs addr), 4, false⟩
  | .incZp z => ⟨0xE6#8, .inc, .mem (.zp z), 5, false⟩
  | .incZpx z => ⟨0xF6#8, .inc, .mem (.zpx z), 6, false⟩
  | .incAbs addr => ⟨0xEE#8, .inc, .mem (.abs addr), 6, false⟩
  | .incAbx addr => ⟨0xFE#8, .inc, .mem (.abx addr), 7, false⟩
  | .decZp z => ⟨0xC6#8, .dec, .mem (.zp z), 5, false⟩
  | .decZpx z => ⟨0xD6#8, .dec, .mem (.zpx z), 6, false⟩
  | .decAbs addr => ⟨0xCE#8, .dec, .mem (.abs addr), 6, false⟩
  | .decAbx addr => ⟨0xDE#8, .dec, .mem (.abx addr), 7, false⟩
  | .inx => ⟨0xE8#8, .inx, .imp, 2, false⟩
  | .dex => ⟨0xCA#8, .dex, .imp, 2, false⟩
  | .iny => ⟨0xC8#8, .iny, .imp, 2, false⟩
  | .dey => ⟨0x88#8, .dey, .imp, 2, false⟩
  | .bcc off => ⟨0x90#8, .bcc, .rel off, 2, false⟩
  | .bcs off => ⟨0xB0#8, .bcs, .rel off, 2, false⟩
  | .beq off => ⟨0xF0#8, .beq, .rel off, 2, false⟩
  | .bne off => ⟨0xD0#8, .bne, .rel off, 2, false⟩
  | .bmi off => ⟨0x30#8, .bmi, .rel off, 2, false⟩
  | .bpl off => ⟨0x10#8, .bpl, .rel off, 2, false⟩
  | .bvc off => ⟨0x50#8, .bvc, .rel off, 2, false⟩
  | .bvs off => ⟨0x70#8, .bvs, .rel off, 2, false⟩
  | .jmpAbs addr => ⟨0x4C#8, .jmp, .mem (.abs addr), 3, false⟩
  | .jmpInd ptr => ⟨0x6C#8, .jmp, .mem (.ind ptr), 5, false⟩
  | .pha => ⟨0x48#8, .pha, .imp, 3, false⟩
  | .pla => ⟨0x68#8, .pla, .imp, 4, false⟩
  | .php => ⟨0x08#8, .php, .imp, 3, false⟩
  | .plp => ⟨0x28#8, .plp, .imp, 4, false⟩
  | .jsr addr => ⟨0x20#8, .jsr, .mem (.abs addr), 6, false⟩
  | .rts => ⟨0x60#8, .rts, .imp, 6, false⟩
  | .brk => ⟨0x00#8, .brk, .imp, 7, false⟩
  | .rti => ⟨0x40#8, .rti, .imp, 6, false⟩
  | .ldaImm v => ⟨0xA9#8, .lda, .imm v, 2, false⟩
  | .ldaZp z => ⟨0xA5#8, .lda, .mem (.zp z), 3, false⟩
  | .ldaZpx z => ⟨0xB5#8, .lda, .mem (.zpx z), 4, false⟩
  | .ldaAbs addr => ⟨0xAD#8, .lda, .mem (.abs addr), 4, false⟩
  | .ldaAbx addr => ⟨0xBD#8, .lda, .mem (.abx addr), 4, true⟩
  | .ldaAby addr => ⟨0xB9#8, .lda, .mem (.aby addr), 4, true⟩
  | .ldaIzx ptr => ⟨0xA1#8, .lda, .mem (.izx ptr), 6, false⟩
  | .ldaIzy ptr => ⟨0xB1#8, .lda, .mem (.izy ptr), 5, true⟩
  | .ldxImm v => ⟨0xA2#8, .ldx, .imm v, 2, false⟩
  | .ldxZp z => ⟨0xA6#8, .ldx, .mem (.zp z), 3, false⟩
  | .ldxZpy z => ⟨0xB6#8, .ldx, .mem (.zpy z), 4, false⟩
  | .ldxAbs addr => ⟨0xAE#8, .ldx, .mem (.abs addr), 4, false⟩
  | .ldxAby addr => ⟨0xBE#8, .ldx, .mem (.aby addr), 4, true⟩
  | .ldyImm v => ⟨0xA0#8, .ldy, .imm v, 2, false⟩
  | .ldyZp z => ⟨0xA4#8, .ldy, .mem (.zp z), 3, false⟩
  | .ldyZpx z => ⟨0xB4#8, .ldy, .mem (.zpx z), 4, false⟩
  | .ldyAbs addr => ⟨0xAC#8, .ldy, .mem (.abs addr), 4, false⟩
  | .ldyAbx addr => ⟨0xBC#8, .ldy, .mem (.abx addr), 4, true⟩
  | .staZp z => ⟨0x85#8, .sta, .mem (.zp z), 3, false⟩
  | .staZpx z => ⟨0x95#8, .sta, .mem (.zpx z), 4, false⟩
  | .staAbs addr => ⟨0x8D#8, .sta, .mem (.abs addr), 4, false⟩
  | .staAbx addr => ⟨0x9D#8, .sta, .mem (.abx addr), 5, false⟩
  | .staAby addr => ⟨0x99#8, .sta, .mem (.aby addr), 5, false⟩
  | .staIzx ptr => ⟨0x81#8, .sta, .mem (.izx ptr), 6, false⟩
  | .staIzy ptr => ⟨0x91#8, .sta, .mem (.izy ptr), 6, false⟩
  | .stxZp z => ⟨0x86#8, .stx, .mem (.zp z), 3, false⟩
  | .stxZpy z => ⟨0x96#8, .stx, .mem (.zpy z), 4, false⟩
  | .stxAbs addr => ⟨0x8E#8, .stx, .mem (.abs addr), 4, false⟩
  | .styZp z => ⟨0x84#8, .sty, .mem (.zp z), 3, false⟩
  | .styZpx z => ⟨0x94#8, .sty, .mem (.zpx z), 4, false⟩
  | .styAbs addr => ⟨0x8C#8, .sty, .mem (.abs addr), 4, false⟩
  | .tax => ⟨0xAA#8, .tax, .imp, 2, false⟩
  | .tay => ⟨0xA8#8, .tay, .imp, 2, false⟩
  | .txa => ⟨0x8A#8, .txa, .imp, 2, false⟩
  | .tya => ⟨0x98#8, .tya, .imp, 2, false⟩
  | .tsx => ⟨0xBA#8, .tsx, .imp, 2, false⟩
  | .txs => ⟨0x9A#8, .txs, .imp, 2, false⟩
  | .sec => ⟨0x38#8, .sec, .imp, 2, false⟩
  | .clc => ⟨0x18#8, .clc, .imp, 2, false⟩
  | .sei => ⟨0x78#8, .sei, .imp, 2, false⟩
  | .cli => ⟨0x58#8, .cli, .imp, 2, false⟩
  | .sed => ⟨0xF8#8, .sed, .imp, 2, false⟩
  | .cld => ⟨0xD8#8, .cld, .imp, 2, false⟩
  | .clv => ⟨0xB8#8, .clv, .imp, 2, false⟩
  | .nop => ⟨0xEA#8, .nop, .imp, 2, false⟩

/-- The opcode byte of an instruction (R54). -/
def Instr.opcode (i : Instr) : Byte := (entry i).opcode

/-- The mnemonic of an instruction (R54). -/
def Instr.mnemonic (i : Instr) : Mnemonic := (entry i).mnemonic

/-- The addressing mode of an instruction, with its operand bytes (R51). -/
def Instr.mode (i : Instr) : Mode := (entry i).mode

/-- `BASE_CYCLES` (R5, R54; decision D22): the base cycle count of every instruction. Log entry 19. -/
def Config.baseCycles (i : Instr) : Nat := (entry i).base

/-- `PAGE_PENALTY` (R5, R54; decision D22): whether the page penalty applies to an instruction. Log entry 19. -/
def Config.pagePenalty (i : Instr) : Bool := (entry i).penalty

/-- The base cycle count of an instruction (R54, R71). -/
def Instr.baseCycles (i : Instr) : Nat := Config.baseCycles i

/-- Whether the page penalty applies to an instruction (R54, R71). -/
def Instr.pagePenalty (i : Instr) : Bool := Config.pagePenalty i

/-! ## The decoder -/

/-- What an assigned opcode byte stands for: an instruction that waits for the operand bytes its format has. -/
inductive Form where
  /-- One byte: IMP and ACC. -/
  | bare (i : Instr)
  /-- Two bytes: one operand byte follows. -/
  | byte (f : Byte → Instr)
  /-- Three bytes: a 16-bit operand follows, low byte first. -/
  | word (f : Word → Instr)

/-- One row of the table by opcode byte. -/
abbrev OpRow := Byte × Form

/-- The form of the Indirect mode with `n` operand bytes (R51; decision D10): a zero-page pointer, or a 16-bit one with
its low byte first. -/
def indirectForm : Config.IndirectPtrBytes → Form
  | .one => .byte fun p => .jmpInd (p.setWidth 16)
  | .two => .word .jmpInd

/-- The assigned opcodes 0x00 to 0x0F (R54). -/
def opRows0 : List OpRow :=
  [(0x00#8, .bare .brk),
   (0x01#8, .byte .oraIzx),
   (0x05#8, .byte .oraZp),
   (0x06#8, .byte .aslZp),
   (0x08#8, .bare .php),
   (0x09#8, .byte .oraImm),
   (0x0A#8, .bare .aslAcc),
   (0x0D#8, .word .oraAbs),
   (0x0E#8, .word .aslAbs)]

/-- The assigned opcodes 0x10 to 0x1F (R54). -/
def opRows1 : List OpRow :=
  [(0x10#8, .byte .bpl),
   (0x11#8, .byte .oraIzy),
   (0x15#8, .byte .oraZpx),
   (0x16#8, .byte .aslZpx),
   (0x18#8, .bare .clc),
   (0x19#8, .word .oraAby),
   (0x1D#8, .word .oraAbx),
   (0x1E#8, .word .aslAbx)]

/-- The assigned opcodes 0x20 to 0x2F (R54). -/
def opRows2 : List OpRow :=
  [(0x20#8, .word .jsr),
   (0x21#8, .byte .andIzx),
   (0x24#8, .byte .bitZp),
   (0x25#8, .byte .andZp),
   (0x26#8, .byte .rolZp),
   (0x28#8, .bare .plp),
   (0x29#8, .byte .andImm),
   (0x2A#8, .bare .rolAcc),
   (0x2C#8, .word .bitAbs),
   (0x2D#8, .word .andAbs),
   (0x2E#8, .word .rolAbs)]

/-- The assigned opcodes 0x30 to 0x3F (R54). -/
def opRows3 : List OpRow :=
  [(0x30#8, .byte .bmi),
   (0x31#8, .byte .andIzy),
   (0x35#8, .byte .andZpx),
   (0x36#8, .byte .rolZpx),
   (0x38#8, .bare .sec),
   (0x39#8, .word .andAby),
   (0x3D#8, .word .andAbx),
   (0x3E#8, .word .rolAbx)]

/-- The assigned opcodes 0x40 to 0x4F (R54). -/
def opRows4 : List OpRow :=
  [(0x40#8, .bare .rti),
   (0x41#8, .byte .eorIzx),
   (0x45#8, .byte .eorZp),
   (0x46#8, .byte .lsrZp),
   (0x48#8, .bare .pha),
   (0x49#8, .byte .eorImm),
   (0x4A#8, .bare .lsrAcc),
   (0x4C#8, .word .jmpAbs),
   (0x4D#8, .word .eorAbs),
   (0x4E#8, .word .lsrAbs)]

/-- The assigned opcodes 0x50 to 0x5F (R54). -/
def opRows5 : List OpRow :=
  [(0x50#8, .byte .bvc),
   (0x51#8, .byte .eorIzy),
   (0x55#8, .byte .eorZpx),
   (0x56#8, .byte .lsrZpx),
   (0x58#8, .bare .cli),
   (0x59#8, .word .eorAby),
   (0x5D#8, .word .eorAbx),
   (0x5E#8, .word .lsrAbx)]

/-- The assigned opcodes 0x60 to 0x6F (R54). -/
def opRows6 : List OpRow :=
  [(0x60#8, .bare .rts),
   (0x61#8, .byte .adcIzx),
   (0x65#8, .byte .adcZp),
   (0x66#8, .byte .rorZp),
   (0x68#8, .bare .pla),
   (0x69#8, .byte .adcImm),
   (0x6A#8, .bare .rorAcc),
   (0x6C#8, indirectForm Config.indirectPtrBytes),
   (0x6D#8, .word .adcAbs),
   (0x6E#8, .word .rorAbs)]

/-- The assigned opcodes 0x70 to 0x7F (R54). -/
def opRows7 : List OpRow :=
  [(0x70#8, .byte .bvs),
   (0x71#8, .byte .adcIzy),
   (0x75#8, .byte .adcZpx),
   (0x76#8, .byte .rorZpx),
   (0x78#8, .bare .sei),
   (0x79#8, .word .adcAby),
   (0x7D#8, .word .adcAbx),
   (0x7E#8, .word .rorAbx)]

/-- The assigned opcodes 0x80 to 0x8F (R54). -/
def opRows8 : List OpRow :=
  [(0x81#8, .byte .staIzx),
   (0x84#8, .byte .styZp),
   (0x85#8, .byte .staZp),
   (0x86#8, .byte .stxZp),
   (0x88#8, .bare .dey),
   (0x8A#8, .bare .txa),
   (0x8C#8, .word .styAbs),
   (0x8D#8, .word .staAbs),
   (0x8E#8, .word .stxAbs)]

/-- The assigned opcodes 0x90 to 0x9F (R54). -/
def opRows9 : List OpRow :=
  [(0x90#8, .byte .bcc),
   (0x91#8, .byte .staIzy),
   (0x94#8, .byte .styZpx),
   (0x95#8, .byte .staZpx),
   (0x96#8, .byte .stxZpy),
   (0x98#8, .bare .tya),
   (0x99#8, .word .staAby),
   (0x9A#8, .bare .txs),
   (0x9D#8, .word .staAbx)]

/-- The assigned opcodes 0xA0 to 0xAF (R54). -/
def opRowsA : List OpRow :=
  [(0xA0#8, .byte .ldyImm),
   (0xA1#8, .byte .ldaIzx),
   (0xA2#8, .byte .ldxImm),
   (0xA4#8, .byte .ldyZp),
   (0xA5#8, .byte .ldaZp),
   (0xA6#8, .byte .ldxZp),
   (0xA8#8, .bare .tay),
   (0xA9#8, .byte .ldaImm),
   (0xAA#8, .bare .tax),
   (0xAC#8, .word .ldyAbs),
   (0xAD#8, .word .ldaAbs),
   (0xAE#8, .word .ldxAbs)]

/-- The assigned opcodes 0xB0 to 0xBF (R54). -/
def opRowsB : List OpRow :=
  [(0xB0#8, .byte .bcs),
   (0xB1#8, .byte .ldaIzy),
   (0xB4#8, .byte .ldyZpx),
   (0xB5#8, .byte .ldaZpx),
   (0xB6#8, .byte .ldxZpy),
   (0xB8#8, .bare .clv),
   (0xB9#8, .word .ldaAby),
   (0xBA#8, .bare .tsx),
   (0xBC#8, .word .ldyAbx),
   (0xBD#8, .word .ldaAbx),
   (0xBE#8, .word .ldxAby)]

/-- The assigned opcodes 0xC0 to 0xCF (R54). -/
def opRowsC : List OpRow :=
  [(0xC0#8, .byte .cpyImm),
   (0xC1#8, .byte .cmpIzx),
   (0xC4#8, .byte .cpyZp),
   (0xC5#8, .byte .cmpZp),
   (0xC6#8, .byte .decZp),
   (0xC8#8, .bare .iny),
   (0xC9#8, .byte .cmpImm),
   (0xCA#8, .bare .dex),
   (0xCC#8, .word .cpyAbs),
   (0xCD#8, .word .cmpAbs),
   (0xCE#8, .word .decAbs)]

/-- The assigned opcodes 0xD0 to 0xDF (R54). -/
def opRowsD : List OpRow :=
  [(0xD0#8, .byte .bne),
   (0xD1#8, .byte .cmpIzy),
   (0xD5#8, .byte .cmpZpx),
   (0xD6#8, .byte .decZpx),
   (0xD8#8, .bare .cld),
   (0xD9#8, .word .cmpAby),
   (0xDD#8, .word .cmpAbx),
   (0xDE#8, .word .decAbx)]

/-- The assigned opcodes 0xE0 to 0xEF (R54). -/
def opRowsE : List OpRow :=
  [(0xE0#8, .byte .cpxImm),
   (0xE1#8, .byte .sbcIzx),
   (0xE4#8, .byte .cpxZp),
   (0xE5#8, .byte .sbcZp),
   (0xE6#8, .byte .incZp),
   (0xE8#8, .bare .inx),
   (0xE9#8, .byte .sbcImm),
   (0xEA#8, .bare .nop),
   (0xEC#8, .word .cpxAbs),
   (0xED#8, .word .sbcAbs),
   (0xEE#8, .word .incAbs)]

/-- The assigned opcodes 0xF0 to 0xFF (R54). -/
def opRowsF : List OpRow :=
  [(0xF0#8, .byte .beq),
   (0xF1#8, .byte .sbcIzy),
   (0xF5#8, .byte .sbcZpx),
   (0xF6#8, .byte .incZpx),
   (0xF8#8, .bare .sed),
   (0xF9#8, .word .sbcAby),
   (0xFD#8, .word .sbcAbx),
   (0xFE#8, .word .incAbx)]

/-- `OPCODE_MAP` (R5, R54; decision D1): what each assigned opcode byte stands for. A byte that is not listed is
unassigned (R55). Log entry 8. -/
def Config.opcodeMap : List OpRow :=
  opRows0 ++ opRows1 ++ opRows2 ++ opRows3 ++ opRows4 ++ opRows5 ++ opRows6 ++ opRows7 ++
  opRows8 ++ opRows9 ++ opRowsA ++ opRowsB ++ opRowsC ++ opRowsD ++ opRowsE ++ opRowsF

/-- The four opcodes that are assigned only where JMP and BIT are admitted (R59). -/
def isJmpBitOpcode (op : Byte) : Bool := [0x24#8, 0x2C#8, 0x4C#8, 0x6C#8].contains op

/-- What the opcode byte `op` stands for; none where it is unassigned (R53, R55). `jmpBit` is the parameter
`ADMIT_JMP_BIT` (R59). -/
def formUnder (jmpBit : Bool) (op : Byte) : Option Form :=
  if !jmpBit && isJmpBitOpcode op then none else Config.opcodeMap.lookup op

/-- What the opcode byte `op` stands for on this machine. -/
def formOf (op : Byte) : Option Form := formUnder Config.admitJmpBit op

/-- What the decoder answers. -/
inductive Decoded where
  /-- An instruction, and the bytes after it. -/
  | ok (i : Instr) (rest : List Byte)
  /-- The first byte is one of the unassigned ones (R55). -/
  | unassigned (op : Byte)
  /-- The bytes end before the instruction does. -/
  | truncated
  deriving DecidableEq, Repr

/-- Takes from `rest` the operand bytes that `f` waits for (R50, R52). -/
def Form.complete (f : Form) (rest : List Byte) : Decoded :=
  match f, rest with
  | .bare i, rest => .ok i rest
  | .byte g, b :: rest => .ok (g b) rest
  | .word g, lo :: hi :: rest => .ok (g (pair hi lo)) rest
  | _, _ => .truncated

/-- The instruction that a list of bytes begins with. The opcode byte alone selects the instruction, its mode and its
length (R50). -/
def decode : List Byte → Decoded
  | [] => .truncated
  | op :: rest =>
    match formOf op with
    | none => .unassigned op
    | some f => f.complete rest

/-- The instruction at the start of three consecutive bytes (no instruction is longer); none where the first byte is
unassigned. -/
def decodeWindow (b0 b1 b2 : Byte) : Option Instr :=
  match decode [b0, b1, b2] with
  | .ok i _ => some i
  | _ => none

/-- The instruction read from the bits `w` of a row of spec/opcode_table.json: bit 0 is the least significant bit of
the first byte, the second byte is bits 15 to 8, and every bit from `nbits` on is 0. -/
def decodeTableWord (nbits w : Nat) : Option Instr :=
  let w := w % 2 ^ nbits
  decodeWindow (BitVec.ofNat 8 w) (BitVec.ofNat 8 (w / 256)) (BitVec.ofNat 8 (w / 65536))

/-! ## The encoder -/

/-- The operand bytes of the Indirect mode, `n` of them, low byte first (R51; decision D10). -/
def indirectBytes : Config.IndirectPtrBytes → Word → List Byte
  | .one, p => [loByte p]
  | .two, p => [loByte p, hiByte p]

/-- The operand bytes of a memory mode, in ascending address order (R50, R52). -/
def MemMode.bytes : MemMode → List Byte
  | .zp z | .zpx z | .zpy z => [z]
  | .abs a | .abx a | .aby a => [loByte a, hiByte a]
  | .ind p => indirectBytes Config.indirectPtrBytes p
  | .izx p | .izy p => [p]

/-- The operand bytes of a mode, in ascending address order (R50, R52). -/
def Mode.bytes : Mode → List Byte
  | .imp | .acc => []
  | .imm v => [v]
  | .rel off => [off]
  | .mem m => m.bytes

/-- The length of a mode's format in bytes, the opcode byte included (R51). -/
def Mode.length : Mode → Nat
  | .imp | .acc => 1
  | .imm _ | .rel _ => 2
  | .mem (.abs _) | .mem (.abx _) | .mem (.aby _) => 3
  | .mem (.ind _) => 1 + Config.indirectPtrBytes.toNat
  | .mem _ => 2

/-- The length of an instruction in bytes (R50, R51). -/
def Instr.length (i : Instr) : Nat := i.mode.length

/-- The bytes of an instruction: its opcode byte, then its operand bytes (R50, R51). -/
def encode (i : Instr) : List Byte := i.opcode :: i.mode.bytes

end Sys2Proof
end

