-- ==== Sys2Proof/Machine/State.lean ====
section
/-! DEFINITION. The state of the machine as plain data (spec/10_state.md), why a step can stop
(spec/60_exceptions.md), and the state after reset. -/

namespace Sys2Proof.Machine

/-- Memory: the listed cells, by rising address. An address that is not listed reads as `Config.unlistedByte`. Its
canonical form is `Memory.wf` (Machine/Ops.lean). -/
abbrev Memory := List Host.Cell

/-- The seven independent flags (R14). -/
structure Flags where
  /-- Carry. -/
  c : Bool
  /-- Zero. -/
  z : Bool
  /-- Interrupt disable: stored, masks nothing (R204). -/
  i : Bool
  /-- Decimal: selects decimal mode of ADC and SBC. -/
  d : Bool
  /-- Break: a stored flag in this design (R14). -/
  b : Bool
  /-- Overflow. -/
  v : Bool
  /-- Negative. -/
  n : Bool
  deriving DecidableEq, Repr

/-- Everything the spec gives the machine (10_state.md section 1), and one field of the model's own, `cycles`. -/
structure State where
  /-- Program counter: between steps, the address of the next opcode byte (R12). -/
  pc : Word
  /-- Stack pointer: an 8-bit offset into the stack page (R10, R155). -/
  sp : Byte
  /-- Accumulator (R10). -/
  a : Byte
  /-- Index register X (R10). -/
  x : Byte
  /-- Index register Y (R10). -/
  y : Byte
  /-- The seven flags (R14). -/
  flags : Flags
  /-- The transient page-boundary-crossed flag (R18). -/
  pageCrossed : Bool
  /-- The model's own: the cycle count that the last step returned to the host (R70, R71, R72), none where no step has
  returned one. An output of the step; nothing reads it (R20, R224). DESIGN CHOICE, safe: log entry 4. -/
  cycles : Option Nat
  /-- The 65536 byte cells (R19, R30). -/
  mem : Memory
  deriving DecidableEq, Repr

/-- Why a step stops. -/
inductive Fault where
  /-- `InvalidOpcode(op)` (R200, R201): raised by `step` when the fetched byte `op` is unassigned; `left` is the state
  it leaves, from which the host may call `step` again. Safe: the run ends, as the spec's U1 asks. Log entry 5. -/
  | invalidOpcode (op : Byte) (left : State)
  deriving DecidableEq, Repr

/-- Why an instruction has no meaning. -/
inductive Refusal where
  /-- Raised by `exec` for an instruction this model gives no meaning yet; safe. No arm raises it. -/
  | notModelled (mnemonic : String)
  deriving DecidableEq, Repr

/-- What a meaning answers. -/
abbrev Result := Host.Outcome State Fault Refusal

/-- The launch state of R220: the host supplies every register, every flag and all of memory; `page_crossed` is 0 and
no step has returned a count. -/
def State.launch (pc : Word) (sp a x y : Byte) (flags : Flags) (mem : Memory) : State :=
  { pc, sp, a, x, y, flags, pageCrossed := false, cycles := none, mem }

/-- The state after reset. The block has no reset (R220): this is the launch state in which everything the host
supplies is zero. DESIGN CHOICE, unsafe: log entries 1 and 2. -/
def State.reset : State :=
  State.launch 0x0000#16 0x00#8 0x00#8 0x00#8 0x00#8
    { c := false, z := false, i := false, d := false, b := false, v := false, n := false } []

end Sys2Proof.Machine
end

