-- ==== Sys2Proof/Machine/Flags.lean ====
section
/-! DEFINITION. The flag computations: the status byte (spec/10_state.md R15, R16), the setter of `N` and `Z`
(spec/40_step_and_addressing.md R88), and the adders of ADC and SBC with their flags in binary and in packed-BCD mode
(spec/41_arithmetic.md R100 to R103). -/

namespace Sys2Proof.Machine

/-! ## The status byte -/

/-- A flag as bit 0 of a byte. -/
def flagBit (p : Bool) : Byte := if p then 1#8 else 0#8

/-- `pack()` (R15): bit 7 `N`, 6 `V`, 5 always 1, 4 `B`, 3 `D`, 2 `I`, 1 `Z`, 0 `C`. -/
def pack (f : Flags) : Byte :=
  (flagBit f.n <<< 7) ||| (flagBit f.v <<< 6) ||| (1#8 <<< 5) ||| (flagBit f.b <<< 4) |||
    (flagBit f.d <<< 3) ||| (flagBit f.i <<< 2) ||| (flagBit f.z <<< 1) ||| flagBit f.c

/-- `unpack(p)` (R16): all seven flags from `p`; bit 5 is ignored. -/
def unpack (p : Byte) : Flags :=
  { c := p.getLsbD 0, z := p.getLsbD 1, i := p.getLsbD 2, d := p.getLsbD 3, b := p.getLsbD 4,
    v := p.getLsbD 6, n := p.getLsbD 7 }

/-! ## `N` and `Z` -/

/-- `SetNZ(v)` (R88): `N` from bit 7, `Z` from whether the byte is zero; the other flags stay. -/
def Flags.setNZ (v : Byte) (f : Flags) : Flags := { f with n := v.getLsbD 7, z := v == 0#8 }

/-! ## Adders -/

/-- What an adder gives: the stored byte, the carry out, the signed overflow. -/
structure AluOut where
  value : Byte
  carry : Bool
  overflow : Bool
  deriving DecidableEq, Repr

/-- The signed-overflow test of an addition `a + m = r` (R100, R103). -/
def addOverflow (a m r : Byte) : Bool := ((a ^^^ r) &&& (m ^^^ r) &&& 0x80#8) != 0#8

/-- Binary addition with carry (R100, R103): exact in `Nat`, then narrowed. -/
def addBinary (a m : Byte) (carryIn : Bool) : AluOut :=
  let bin := a.toNat + m.toNat + carryIn.toNat
  let r8 := BitVec.ofNat 8 bin
  { value := r8, carry := decide (bin > 255), overflow := addOverflow a m r8 }

/-- Binary subtraction with borrow (R101): ADC's adder on the one's complement of the operand. `V` follows
`Config.sbcVRule` (decision D13). -/
def subBinary (a m : Byte) (carryIn : Bool) : AluOut :=
  let out := addBinary a (m ^^^ 0xFF#8) carryIn
  match Config.sbcVRule with
  | .signedOverflow => out
  | .negatedOperand => { out with overflow := addOverflow a (-m) out.value }

/-- A byte is valid BCD when both nibbles are 0 to 9 (R102). -/
def bcdValid (b : Byte) : Bool := decide (b.toNat / 16 ≤ 9) && decide (b.toNat % 16 ≤ 9)

/-- `bcdval(b)` (R102): the decimal number of a valid byte. What an invalid byte stands for is the parameter
BCD_INVALID_NIBBLE, to which R102 gives the same formula (decision D15). -/
def bcdval (b : Byte) : Nat :=
  if bcdValid b then 10 * (b.toNat / 16) + b.toNat % 16 else Config.bcdOfInvalid b

/-- `bcdpack(n)` for `n` in 0 to 99 (R102). -/
def bcdpack (n : Nat) : Byte := BitVec.ofNat 8 (n / 10 * 16 + n % 10)

/-- Decimal addition (R100, `D` = 1): BCD result and carry; `V` as binary mode would give it. -/
def addDecimal (a m : Byte) (carryIn : Bool) : AluOut :=
  let s := bcdval a + bcdval m + carryIn.toNat
  { value := bcdpack (s % 100), carry := decide (s > 99), overflow := (addBinary a m carryIn).overflow }

/-- Decimal subtraction (R101, `D` = 1): BCD result, `C` = no decimal borrow; `V` as binary mode would give it. -/
def subDecimal (a m : Byte) (carryIn : Bool) : AluOut :=
  let d : Int := (bcdval a : Int) - bcdval m - (1 - carryIn.toNat)
  { value := bcdpack (d % 100).toNat, carry := decide (d ≥ 0), overflow := (subBinary a m carryIn).overflow }

/-- The byte whose bit 7 is `N` after a decimal ADC or SBC that stores `stored`, where binary mode would have stored
`binary` (R100, R101; decision D14). -/
def decimalNSource (stored binary : Byte) : Byte :=
  match Config.decimalFlags with
  | .storedResult => stored
  | .binaryMode => binary

/-! ## Compare -/

/-- `Compare(reg)` (R134): `C` from the unsigned comparison, `N` and `Z` from the 8-bit difference. -/
def Flags.compare (reg m : Byte) (f : Flags) : Flags :=
  { f with c := decide (m.toNat ≤ reg.toNat) }.setNZ (reg - m)

end Sys2Proof.Machine
end

