-- ==== Sys2Proof/Machine/Ops.lean ====
section
/-! DEFINITION. The named operations over memory and registers: byte reads and writes of the canonical memory
(spec/20_memory.md R31, R35), one setter per field of State, the stack (spec/45_stack_subroutine_interrupt.md R155,
R156), taking the one trap of the block (R163, R206) and returning from it (R164, R207), and what an invalid opcode
leaves (R201). -/

namespace Sys2Proof.Machine

/-! ## Memory -/

/-- The byte at address `a` (R31). -/
def Memory.read : Memory → Word → Byte
  | [], _ => Config.unlistedByte
  | (k, v) :: m, a => if k = a.toNat then v else Memory.read m a

/-- Puts the cell `(k, v)` in front, or no cell where `v` is what an unlisted address reads as. -/
def Memory.put (k : Nat) (v : Byte) (m : Memory) : Memory :=
  if v = Config.unlistedByte then m else (k, v) :: m

/-- Stores `v` at address `a` (R31), keeping the canonical form. -/
def Memory.write : Memory → Word → Byte → Memory
  | [], a, v => Memory.put a.toNat v []
  | (k, w) :: m, a, v =>
    if k < a.toNat then (k, w) :: Memory.write m a v
    else if k = a.toNat then Memory.put k v m
    else Memory.put a.toNat v ((k, w) :: m)

/-- The cells of `m` rise strictly from an address above every one of `[0, lo)`, lie below 65536 (R30), and none of
them says what an unlisted address reads as anyway. -/
def Memory.wfFrom : Nat → Memory → Bool
  | _, [] => true
  | lo, (k, v) :: m =>
    decide (lo ≤ k) && decide (k < 65536) && decide (v ≠ Config.unlistedByte) && Memory.wfFrom (k + 1) m

/-- The canonical form of memory: equal memories are equal data. -/
def Memory.wf (m : Memory) : Bool := Memory.wfFrom 0 m

/-! ## One setter per field -/

/-- `PC <- v`. -/
def State.setPc (s : State) (v : Word) : State := { s with pc := v }

/-- `SP <- v`. -/
def State.setSp (s : State) (v : Byte) : State := { s with sp := v }

/-- `A <- v`. -/
def State.setA (s : State) (v : Byte) : State := { s with a := v }

/-- `X <- v`. -/
def State.setX (s : State) (v : Byte) : State := { s with x := v }

/-- `Y <- v`. -/
def State.setY (s : State) (v : Byte) : State := { s with y := v }

/-- All seven flags. -/
def State.setFlags (s : State) (f : Flags) : State := { s with flags := f }

/-- `page_crossed <- p` (R18). -/
def State.setPageCrossed (s : State) (p : Bool) : State := { s with pageCrossed := p }

/-- What the step returns to the host (R70). -/
def State.setCycles (s : State) (n : Option Nat) : State := { s with cycles := n }

/-- `SetNZ(v)` on the state (R88). -/
def State.setNZ (s : State) (v : Byte) : State := s.setFlags (s.flags.setNZ v)

/-- `MemRead(a, 1)` (R31). -/
def State.read (s : State) (a : Word) : Byte := s.mem.read a

/-- `MemWrite(a, 1, v)` (R31). -/
def State.write (s : State) (a : Word) (v : Byte) : State := { s with mem := s.mem.write a v }

/-- The sum of two addresses, as ADDRESS_POLICY reduces it (R32; decision D16): every address that is computed for an
access is made here. -/
def addAddress (a b : Word) : Word := Config.addressPolicy (a.toNat + b.toNat)

/-- `Read16(a)` (R35): little-endian, the high byte at `a + 1` mod 65536. -/
def State.read16 (s : State) (a : Word) : Word := pair (s.read (addAddress a 1)) (s.read a)

/-- The 16-bit value that a pointer points with (R35, R83 to R85): `Read16`, unless PTR_WRAP keeps the second byte in
the page of the first (decision D11). -/
def State.readPointer (s : State) (p : Word) : Word :=
  if Config.ptrWrapsInPage then pair (s.read (pair (hiByte p) (loByte p + 1))) (s.read p) else s.read16 p

/-! ## The stack -/

/-- The address a stack access uses: STACK_BASE + `SP`, mod 65536 (R155). -/
def stackAddress (sp : Byte) : Word := addAddress Config.stackBase (sp.setWidth 16)

/-- The offset a push writes at: `SP` before its decrement (R155), or after it where STACK_DISCIPLINE says so. -/
def pushOffset (sp : Byte) : Byte := if Config.stackDiscipline.pushDecrementsFirst then sp - 1 else sp

/-- The offset a pull reads at: `SP` after its increment (R156), or before it where STACK_DISCIPLINE says so. -/
def pullOffset (sp : Byte) : Byte := if Config.stackDiscipline.pullIncrementsFirst then sp + 1 else sp

/-- `Push(v)` (R155): write at the stack address, then decrement `SP`. -/
def State.push (s : State) (v : Byte) : State := (s.write (stackAddress (pushOffset s.sp)) v).setSp (s.sp - 1)

/-- The state after `Pull()` (R156): `SP` incremented. -/
def State.pulled (s : State) : State := s.setSp (s.sp + 1)

/-- What `Pull()` returns (R156): the byte at the stack address after the increment. -/
def State.pull (s : State) : Byte := s.read (stackAddress (pullOffset s.sp))

/-- Pushes a 16-bit value, high byte first (R161, R163; STACK_DISCIPLINE, decision D6). -/
def State.pushWord (s : State) (w : Word) : State :=
  if Config.stackDiscipline.highByteFirst then (s.push (hiByte w)).push (loByte w)
  else (s.push (loByte w)).push (hiByte w)

/-- What two pulls give, low byte first (R162, R164; STACK_DISCIPLINE, decision D6). -/
def State.pullWord (s : State) : Word :=
  if Config.stackDiscipline.highByteFirst then pair s.pulled.pull s.pull else pair s.pull s.pulled.pull

/-! ## Taking the trap, and returning from it -/

/-- BRK's trap entry (R163, R206), the one exception entry of the block; `PC` is the BRK's address + 1 on entry. It
skips the padding byte, sets `B`, pushes `PC` high, `PC` low and the status byte, sets `I`, and goes to the vector. -/
def State.takeBreak (s : State) : State :=
  let s := s.setPc (s.pc + 1)
  let s := if Config.brkSetsB then s.setFlags { s.flags with b := true } else s
  let s := if Config.brkPushes then (s.pushWord s.pc).push (pack s.flags) else s
  let s := if Config.brkSetsI then s.setFlags { s.flags with i := true } else s
  s.setPc (s.read16 Config.brkVector)

/-- RTI's return (R164, R207): the status byte into all seven flags, then `PC` low and `PC` high, with no + 1. -/
def State.returnFromInterrupt (s : State) : State :=
  let s := s.pulled.setFlags (unpack s.pull)
  s.pulled.pulled.setPc s.pullWord

/-! ## The error, and the host's load -/

/-- What an `InvalidOpcode` step leaves (R201): `PC` past the opcode byte, `page_crossed` 0, no cycle count. -/
def State.afterInvalidOpcode (s : State) : State :=
  ((s.setPageCrossed false).setPc (s.pc + 1)).setCycles none

/-- What a step answers where the fetched byte `op` is unassigned, as INVALID_OPCODE_POLICY says (R201; decision
D3). -/
def State.invalidOpcode (s : State) (op : Byte) : Result :=
  match Config.invalidOpcodePolicy with
  | .raise => .fault (.invalidOpcode op s.afterInvalidOpcode)
  | .silentNoOp => .next (s.afterInvalidOpcode.setCycles (some 0))

/-- The host writes bytes to consecutive addresses (R24, R225). -/
def State.place (s : State) (a : Word) : List Byte → State
  | [] => s
  | b :: bs => (s.write a b).place (a + 1) bs

end Sys2Proof.Machine
end

