-- ==== Sys2Proof/Machine/Operands.lean ====
section
/-! DEFINITION. The addressing-mode resolvers (spec/40_step_and_addressing.md R73 to R87): the effective address of
every mode and whether it crosses a page, and the operand it leads to. `PC` already addresses the byte after the
instruction here (R70). -/

namespace Sys2Proof.Machine

/-- What a resolver gives: the effective address, and `page_crossed`. -/
structure Resolved where
  ea : Word
  crossed : Bool
  deriving DecidableEq, Repr

/-- The page-cross test (R86): the high bytes differ. -/
def crossed (ref a : Word) : Bool := hiByte ref != hiByte a

/-- Zero page (R76). -/
def resolveZp (z : Byte) : Resolved := { ea := z.setWidth 16, crossed := false }

/-- Zero page indexed by `r` (R77, R78): the sum stays in page 0. -/
def resolveZpIndexed (z r : Byte) : Resolved := { ea := (z + r).setWidth 16, crossed := false }

/-- Relative (R79): `pc` is the address after the operand byte. The address the page is compared with is the parameter
BRANCH_CROSS_REF (decision D28). -/
def resolveRelative (off : Byte) (pc : Word) : Resolved :=
  let ea := addAddress pc (off.signExtend 16)
  let ref := match Config.branchCrossRef with
    | .nextInstruction => pc
    | .branchOpcode => pc - 2
  { ea, crossed := crossed ref ea }

/-- Absolute (R80). -/
def resolveAbs (addr : Word) : Resolved := { ea := addr, crossed := false }

/-- A base indexed by `r`, with the page test on the addition (R81, R82, R85). -/
def resolveIndexed (base : Word) (r : Byte) : Resolved :=
  let ea := addAddress base (r.setWidth 16)
  { ea, crossed := crossed base ea }

/-- Indirect (R83), and the dereference of indexed indirect (R84): no page test. -/
def resolveIndirect (p : Word) (s : State) : Resolved := { ea := s.readPointer p, crossed := false }

/-- The resolver of each memory mode (R76 to R78, R80 to R85). -/
def resolve (m : MemMode) (s : State) : Resolved :=
  match m with
  | .zp z => resolveZp z
  | .zpx z => resolveZpIndexed z s.x
  | .zpy z => resolveZpIndexed z s.y
  | .abs addr => resolveAbs addr
  | .abx addr => resolveIndexed addr s.x
  | .aby addr => resolveIndexed addr s.y
  | .ind p => resolveIndirect p s
  | .izx p => resolveIndirect ((p + s.x).setWidth 16) s
  | .izy p => resolveIndexed (s.readPointer (p.setWidth 16)) s.y

/-- What the resolver of a mode leaves in `page_crossed` (R73 to R85). -/
def modeCrosses (m : Mode) (s : State) : Bool :=
  match m with
  | .imp | .acc | .imm _ => false
  | .rel off => (resolveRelative off s.pc).crossed
  | .mem mm => (resolve mm s).crossed

/-- The operand byte an instruction reads: the immediate byte, or the byte at the effective address (R75, R87). -/
def sourceByte (src : Source) (s : State) : Byte :=
  match src with
  | .imm v => v
  | .mem m => s.read (resolve m s).ea

/-- The operand a shift or rotate reads (R118). -/
def targetByte (t : Target) (s : State) : Byte :=
  match t with
  | .acc => s.a
  | .mem m => s.read (resolve m s).ea

/-- Writes the operand of a shift or rotate (R118). -/
def targetPut (t : Target) (v : Byte) (s : State) : State :=
  match t with
  | .acc => s.setA v
  | .mem m => s.write (resolve m s).ea v

end Sys2Proof.Machine
end

