-- ==== Sys2Proof/Machine/Execute.lean ====
section
/-! DEFINITION. The frame every instruction runs in (spec/40_step_and_addressing.md R70 to R72): `PC` past the
instruction's bytes and `page_crossed` as the resolver leaves it, then the instruction's own effect, then the cycle
count. The host's state has `PC` at the opcode byte (R12); log entries 6 and 7. -/

namespace Sys2Proof.Machine

/-- Steps (a) of R70: clears `page_crossed`, moves `PC` past the opcode and operand bytes, and sets `page_crossed` as
the resolver of the instruction's mode does. -/
def enter (i : Instr) (s : State) : State :=
  let s := (s.setPageCrossed false).setPc (s.pc + BitVec.ofNat 16 i.length)
  s.setPageCrossed (modeCrosses i.mode s)

/-- The cycle count of every instruction but the branches (R71). -/
def cycleCount (i : Instr) (crossed : Bool) : Nat :=
  i.baseCycles + (if i.pagePenalty && crossed then 1 else 0)

/-- The cycle count of a branch (R72). -/
def branchCycles (taken crossed : Bool) : Nat :=
  if taken then (if crossed then 4 else 3) else 2

/-- Runs an instruction whose effect is `effect` (R70): none of them stops (R200). -/
def run (i : Instr) (effect : State → State) (s : State) : Result :=
  let s := enter i s
  .next ((effect s).setCycles (some (cycleCount i s.pageCrossed)))

/-- Runs a branch (R140): `PC <- ea` where the condition holds, and nothing else. -/
def branch (i : Instr) (off : Byte) (cond : Flags → Bool) (s : State) : Result :=
  let s := enter i s
  if cond s.flags then
    .next ((s.setPc (resolveRelative off s.pc).ea).setCycles (some (branchCycles true s.pageCrossed)))
  else .next (s.setCycles (some (branchCycles false s.pageCrossed)))

end Sys2Proof.Machine
end

