-- ==== Sys2Proof/Machine/Arithmetic.lean ====
section
/-! DEFINITION. ADC and SBC (spec/41_arithmetic.md R100, R101). -/

namespace Sys2Proof.Machine

/-- Stores an adder's result in `A`: `C` and `V` from the adder, `Z` from the stored byte, `N` from bit 7 of `nByte`. -/
def accumulate (out : AluOut) (nByte : Byte) (s : State) : State :=
  (s.setA out.value).setFlags
    { s.flags with c := out.carry, v := out.overflow, z := out.value == 0#8, n := nByte.getLsbD 7 }

/-- ADC (R100): binary or decimal, as `D` says. -/
def adc (src : Source) (s : State) : State :=
  let m := sourceByte src s
  let bin := addBinary s.a m s.flags.c
  let dec := addDecimal s.a m s.flags.c
  if s.flags.d then accumulate dec (decimalNSource dec.value bin.value) s else accumulate bin bin.value s

/-- SBC (R101): binary or decimal, as `D` says. -/
def sbc (src : Source) (s : State) : State :=
  let m := sourceByte src s
  let bin := subBinary s.a m s.flags.c
  let dec := subDecimal s.a m s.flags.c
  if s.flags.d then accumulate dec (decimalNSource dec.value bin.value) s else accumulate bin bin.value s

/-! ## One meaning per row -/

/-- ADC IMM (R100, R75). -/
def execAdcImm (v : Byte) (s : State) : Result := run (.adcImm v) (adc (.imm v)) s

/-- ADC ZP (R100, R76). -/
def execAdcZp (z : Byte) (s : State) : Result := run (.adcZp z) (adc (.mem (.zp z))) s

/-- ADC ZPX (R100, R77). -/
def execAdcZpx (z : Byte) (s : State) : Result := run (.adcZpx z) (adc (.mem (.zpx z))) s

/-- ADC ABS (R100, R80). -/
def execAdcAbs (addr : Word) (s : State) : Result := run (.adcAbs addr) (adc (.mem (.abs addr))) s

/-- ADC ABX (R100, R81). -/
def execAdcAbx (addr : Word) (s : State) : Result := run (.adcAbx addr) (adc (.mem (.abx addr))) s

/-- ADC ABY (R100, R82). -/
def execAdcAby (addr : Word) (s : State) : Result := run (.adcAby addr) (adc (.mem (.aby addr))) s

/-- ADC IZX (R100, R84). -/
def execAdcIzx (ptr : Byte) (s : State) : Result := run (.adcIzx ptr) (adc (.mem (.izx ptr))) s

/-- ADC IZY (R100, R85). -/
def execAdcIzy (ptr : Byte) (s : State) : Result := run (.adcIzy ptr) (adc (.mem (.izy ptr))) s

/-- SBC IMM (R101, R75). -/
def execSbcImm (v : Byte) (s : State) : Result := run (.sbcImm v) (sbc (.imm v)) s

/-- SBC ZP (R101, R76). -/
def execSbcZp (z : Byte) (s : State) : Result := run (.sbcZp z) (sbc (.mem (.zp z))) s

/-- SBC ZPX (R101, R77). -/
def execSbcZpx (z : Byte) (s : State) : Result := run (.sbcZpx z) (sbc (.mem (.zpx z))) s

/-- SBC ABS (R101, R80). -/
def execSbcAbs (addr : Word) (s : State) : Result := run (.sbcAbs addr) (sbc (.mem (.abs addr))) s

/-- SBC ABX (R101, R81). -/
def execSbcAbx (addr : Word) (s : State) : Result := run (.sbcAbx addr) (sbc (.mem (.abx addr))) s

/-- SBC ABY (R101, R82). -/
def execSbcAby (addr : Word) (s : State) : Result := run (.sbcAby addr) (sbc (.mem (.aby addr))) s

/-- SBC IZX (R101, R84). -/
def execSbcIzx (ptr : Byte) (s : State) : Result := run (.sbcIzx ptr) (sbc (.mem (.izx ptr))) s

/-- SBC IZY (R101, R85). -/
def execSbcIzy (ptr : Byte) (s : State) : Result := run (.sbcIzy ptr) (sbc (.mem (.izy ptr))) s

end Sys2Proof.Machine
end

