-- ==== Sys2Proof/Machine/Branch.lean ====
section
/-! DEFINITION. The eight branches and JMP (spec/44_branch_jump.md R140 to R149). -/

namespace Sys2Proof.Machine

/-- JMP (R149): `PC <- ea`. -/
def jump (m : MemMode) (s : State) : State := s.setPc (resolve m s).ea

/-! ## One meaning per row -/

/-- BCC REL (R141, R79). -/
def execBcc (off : Byte) (s : State) : Result := branch (.bcc off) off (fun f => !f.c) s

/-- BCS REL (R142, R79). -/
def execBcs (off : Byte) (s : State) : Result := branch (.bcs off) off (fun f => f.c) s

/-- BEQ REL (R143, R79). -/
def execBeq (off : Byte) (s : State) : Result := branch (.beq off) off (fun f => f.z) s

/-- BNE REL (R144, R79). -/
def execBne (off : Byte) (s : State) : Result := branch (.bne off) off (fun f => !f.z) s

/-- BMI REL (R145, R79). -/
def execBmi (off : Byte) (s : State) : Result := branch (.bmi off) off (fun f => f.n) s

/-- BPL REL (R146, R79). -/
def execBpl (off : Byte) (s : State) : Result := branch (.bpl off) off (fun f => !f.n) s

/-- BVC REL (R147, R79). -/
def execBvc (off : Byte) (s : State) : Result := branch (.bvc off) off (fun f => !f.v) s

/-- BVS REL (R148, R79). -/
def execBvs (off : Byte) (s : State) : Result := branch (.bvs off) off (fun f => f.v) s

/-- JMP ABS (R149, R80). -/
def execJmpAbs (addr : Word) (s : State) : Result := run (.jmpAbs addr) (jump (.abs addr)) s

/-- JMP IND (R149, R83). -/
def execJmpInd (ptr : Word) (s : State) : Result := run (.jmpInd ptr) (jump (.ind ptr)) s

end Sys2Proof.Machine
end

