-- ==== Sys2Proof/Machine/Compare.lean ====
section
/-! DEFINITION. CMP, CPX and CPY (spec/43_compare_incdec.md R125 to R127, R134). -/

namespace Sys2Proof.Machine

/-- `Compare(reg)` on the state (R134). -/
def compareWith (reg : Byte) (src : Source) (s : State) : State := s.setFlags (s.flags.compare reg (sourceByte src s))

/-- CMP (R125). -/
def cmp (src : Source) (s : State) : State := compareWith s.a src s

/-- CPX (R126). -/
def cpx (src : Source) (s : State) : State := compareWith s.x src s

/-- CPY (R127). -/
def cpy (src : Source) (s : State) : State := compareWith s.y src s

/-! ## One meaning per row -/

/-- CMP IMM (R125, R75). -/
def execCmpImm (v : Byte) (s : State) : Result := run (.cmpImm v) (cmp (.imm v)) s

/-- CMP ZP (R125, R76). -/
def execCmpZp (z : Byte) (s : State) : Result := run (.cmpZp z) (cmp (.mem (.zp z))) s

/-- CMP ZPX (R125, R77). -/
def execCmpZpx (z : Byte) (s : State) : Result := run (.cmpZpx z) (cmp (.mem (.zpx z))) s

/-- CMP ABS (R125, R80). -/
def execCmpAbs (addr : Word) (s : State) : Result := run (.cmpAbs addr) (cmp (.mem (.abs addr))) s

/-- CMP ABX (R125, R81). -/
def execCmpAbx (addr : Word) (s : State) : Result := run (.cmpAbx addr) (cmp (.mem (.abx addr))) s

/-- CMP ABY (R125, R82). -/
def execCmpAby (addr : Word) (s : State) : Result := run (.cmpAby addr) (cmp (.mem (.aby addr))) s

/-- CMP IZX (R125, R84). -/
def execCmpIzx (ptr : Byte) (s : State) : Result := run (.cmpIzx ptr) (cmp (.mem (.izx ptr))) s

/-- CMP IZY (R125, R85). -/
def execCmpIzy (ptr : Byte) (s : State) : Result := run (.cmpIzy ptr) (cmp (.mem (.izy ptr))) s

/-- CPX IMM (R126, R75). -/
def execCpxImm (v : Byte) (s : State) : Result := run (.cpxImm v) (cpx (.imm v)) s

/-- CPX ZP (R126, R76). -/
def execCpxZp (z : Byte) (s : State) : Result := run (.cpxZp z) (cpx (.mem (.zp z))) s

/-- CPX ABS (R126, R80). -/
def execCpxAbs (addr : Word) (s : State) : Result := run (.cpxAbs addr) (cpx (.mem (.abs addr))) s

/-- CPY IMM (R127, R75). -/
def execCpyImm (v : Byte) (s : State) : Result := run (.cpyImm v) (cpy (.imm v)) s

/-- CPY ZP (R127, R76). -/
def execCpyZp (z : Byte) (s : State) : Result := run (.cpyZp z) (cpy (.mem (.zp z))) s

/-- CPY ABS (R127, R80). -/
def execCpyAbs (addr : Word) (s : State) : Result := run (.cpyAbs addr) (cpy (.mem (.abs addr))) s

end Sys2Proof.Machine
end

