-- ==== Sys2Proof/Machine/FlagOps.lean ====
section
/-! DEFINITION. SEC, CLC, SEI, CLI, SED, CLD, CLV and NOP (spec/46_load_store_transfer_flag.md R182 to R189). -/

namespace Sys2Proof.Machine

/-- SEC (R182). -/
def sec (s : State) : State := s.setFlags { s.flags with c := true }

/-- CLC (R183). -/
def clc (s : State) : State := s.setFlags { s.flags with c := false }

/-- SEI (R184). -/
def sei (s : State) : State := s.setFlags { s.flags with i := true }

/-- CLI (R185). -/
def cli (s : State) : State := s.setFlags { s.flags with i := false }

/-- SED (R186). -/
def sed (s : State) : State := s.setFlags { s.flags with d := true }

/-- CLD (R187). -/
def cld (s : State) : State := s.setFlags { s.flags with d := false }

/-- CLV (R188). -/
def clv (s : State) : State := s.setFlags { s.flags with v := false }

/-! ## One meaning per row -/

/-- SEC IMP (R182, R73). -/
def execSec (s : State) : Result := run .sec sec s

/-- CLC IMP (R183, R73). -/
def execClc (s : State) : Result := run .clc clc s

/-- SEI IMP (R184, R73). -/
def execSei (s : State) : Result := run .sei sei s

/-- CLI IMP (R185, R73). -/
def execCli (s : State) : Result := run .cli cli s

/-- SED IMP (R186, R73). -/
def execSed (s : State) : Result := run .sed sed s

/-- CLD IMP (R187, R73). -/
def execCld (s : State) : Result := run .cld cld s

/-- CLV IMP (R188, R73). -/
def execClv (s : State) : Result := run .clv clv s

/-- NOP IMP (R189, R73). -/
def execNop (s : State) : Result := run .nop id s

end Sys2Proof.Machine
end

