-- ==== Sys2Proof/Machine/IncDec.lean ====
section
/-! DEFINITION. INC, DEC, INX, DEX, INY and DEY (spec/43_compare_incdec.md R128 to R133). -/

namespace Sys2Proof.Machine

/-- Adds `d` to a memory byte mod 256 and sets `N` and `Z` from the result: one read, one write of `ea`. -/
def addToMemory (d : Byte) (m : MemMode) (s : State) : State :=
  let ea := (resolve m s).ea
  let r := s.read ea + d
  (s.write ea r).setNZ r

/-- INC (R128). -/
def inc (m : MemMode) (s : State) : State := addToMemory 1 m s

/-- DEC (R129). -/
def dec (m : MemMode) (s : State) : State := addToMemory (-1) m s

/-- INX (R130). -/
def inx (s : State) : State := (s.setX (s.x + 1)).setNZ (s.x + 1)

/-- DEX (R131). -/
def dex (s : State) : State := (s.setX (s.x - 1)).setNZ (s.x - 1)

/-- INY (R132). -/
def iny (s : State) : State := (s.setY (s.y + 1)).setNZ (s.y + 1)

/-- DEY (R133). -/
def dey (s : State) : State := (s.setY (s.y - 1)).setNZ (s.y - 1)

/-! ## One meaning per row -/

/-- INC ZP (R128, R76). -/
def execIncZp (z : Byte) (s : State) : Result := run (.incZp z) (inc (.zp z)) s

/-- INC ZPX (R128, R77). -/
def execIncZpx (z : Byte) (s : State) : Result := run (.incZpx z) (inc (.zpx z)) s

/-- INC ABS (R128, R80). -/
def execIncAbs (addr : Word) (s : State) : Result := run (.incAbs addr) (inc (.abs addr)) s

/-- INC ABX (R128, R81). -/
def execIncAbx (addr : Word) (s : State) : Result := run (.incAbx addr) (inc (.abx addr)) s

/-- DEC ZP (R129, R76). -/
def execDecZp (z : Byte) (s : State) : Result := run (.decZp z) (dec (.zp z)) s

/-- DEC ZPX (R129, R77). -/
def execDecZpx (z : Byte) (s : State) : Result := run (.decZpx z) (dec (.zpx z)) s

/-- DEC ABS (R129, R80). -/
def execDecAbs (addr : Word) (s : State) : Result := run (.decAbs addr) (dec (.abs addr)) s

/-- DEC ABX (R129, R81). -/
def execDecAbx (addr : Word) (s : State) : Result := run (.decAbx addr) (dec (.abx addr)) s

/-- INX IMP (R130, R73). -/
def execInx (s : State) : Result := run .inx inx s

/-- DEX IMP (R131, R73). -/
def execDex (s : State) : Result := run .dex dex s

/-- INY IMP (R132, R73). -/
def execIny (s : State) : Result := run .iny iny s

/-- DEY IMP (R133, R73). -/
def execDey (s : State) : Result := run .dey dey s

end Sys2Proof.Machine
end

