-- ==== Sys2Proof/Machine/Interrupt.lean ====
section
/-! DEFINITION. BRK and RTI (spec/45_stack_subroutine_interrupt.md R163, R164), over the trap entry and return of
Machine/Ops.lean. -/

namespace Sys2Proof.Machine

/-- BRK IMP (R163, R73). -/
def execBrk (s : State) : Result := run .brk State.takeBreak s

/-- RTI IMP (R164, R73). -/
def execRti (s : State) : Result := run .rti State.returnFromInterrupt s

end Sys2Proof.Machine
end

