-- ==== Sys2Proof/Machine/LoadStore.lean ====
section
/-! DEFINITION. LDA, LDX, LDY, STA, STX and STY (spec/46_load_store_transfer_flag.md R170 to R175). -/

namespace Sys2Proof.Machine

/-- LDA (R170). -/
def lda (src : Source) (s : State) : State := (s.setA (sourceByte src s)).setNZ (sourceByte src s)

/-- LDX (R171). -/
def ldx (src : Source) (s : State) : State := (s.setX (sourceByte src s)).setNZ (sourceByte src s)

/-- LDY (R172). -/
def ldy (src : Source) (s : State) : State := (s.setY (sourceByte src s)).setNZ (sourceByte src s)

/-- STA (R173): one write of `ea`, no flag. -/
def sta (m : MemMode) (s : State) : State := s.write (resolve m s).ea s.a

/-- STX (R174). -/
def stx (m : MemMode) (s : State) : State := s.write (resolve m s).ea s.x

/-- STY (R175). -/
def sty (m : MemMode) (s : State) : State := s.write (resolve m s).ea s.y

/-! ## One meaning per row -/

/-- LDA IMM (R170, R75). -/
def execLdaImm (v : Byte) (s : State) : Result := run (.ldaImm v) (lda (.imm v)) s

/-- LDA ZP (R170, R76). -/
def execLdaZp (z : Byte) (s : State) : Result := run (.ldaZp z) (lda (.mem (.zp z))) s

/-- LDA ZPX (R170, R77). -/
def execLdaZpx (z : Byte) (s : State) : Result := run (.ldaZpx z) (lda (.mem (.zpx z))) s

/-- LDA ABS (R170, R80). -/
def execLdaAbs (addr : Word) (s : State) : Result := run (.ldaAbs addr) (lda (.mem (.abs addr))) s

/-- LDA ABX (R170, R81). -/
def execLdaAbx (addr : Word) (s : State) : Result := run (.ldaAbx addr) (lda (.mem (.abx addr))) s

/-- LDA ABY (R170, R82). -/
def execLdaAby (addr : Word) (s : State) : Result := run (.ldaAby addr) (lda (.mem (.aby addr))) s

/-- LDA IZX (R170, R84). -/
def execLdaIzx (ptr : Byte) (s : State) : Result := run (.ldaIzx ptr) (lda (.mem (.izx ptr))) s

/-- LDA IZY (R170, R85). -/
def execLdaIzy (ptr : Byte) (s : State) : Result := run (.ldaIzy ptr) (lda (.mem (.izy ptr))) s

/-- LDX IMM (R171, R75). -/
def execLdxImm (v : Byte) (s : State) : Result := run (.ldxImm v) (ldx (.imm v)) s

/-- LDX ZP (R171, R76). -/
def execLdxZp (z : Byte) (s : State) : Result := run (.ldxZp z) (ldx (.mem (.zp z))) s

/-- LDX ZPY (R171, R78). -/
def execLdxZpy (z : Byte) (s : State) : Result := run (.ldxZpy z) (ldx (.mem (.zpy z))) s

/-- LDX ABS (R171, R80). -/
def execLdxAbs (addr : Word) (s : State) : Result := run (.ldxAbs addr) (ldx (.mem (.abs addr))) s

/-- LDX ABY (R171, R82). -/
def execLdxAby (addr : Word) (s : State) : Result := run (.ldxAby addr) (ldx (.mem (.aby addr))) s

/-- LDY IMM (R172, R75). -/
def execLdyImm (v : Byte) (s : State) : Result := run (.ldyImm v) (ldy (.imm v)) s

/-- LDY ZP (R172, R76). -/
def execLdyZp (z : Byte) (s : State) : Result := run (.ldyZp z) (ldy (.mem (.zp z))) s

/-- LDY ZPX (R172, R77). -/
def execLdyZpx (z : Byte) (s : State) : Result := run (.ldyZpx z) (ldy (.mem (.zpx z))) s

/-- LDY ABS (R172, R80). -/
def execLdyAbs (addr : Word) (s : State) : Result := run (.ldyAbs addr) (ldy (.mem (.abs addr))) s

/-- LDY ABX (R172, R81). -/
def execLdyAbx (addr : Word) (s : State) : Result := run (.ldyAbx addr) (ldy (.mem (.abx addr))) s

/-- STA ZP (R173, R76). -/
def execStaZp (z : Byte) (s : State) : Result := run (.staZp z) (sta (.zp z)) s

/-- STA ZPX (R173, R77). -/
def execStaZpx (z : Byte) (s : State) : Result := run (.staZpx z) (sta (.zpx z)) s

/-- STA ABS (R173, R80). -/
def execStaAbs (addr : Word) (s : State) : Result := run (.staAbs addr) (sta (.abs addr)) s

/-- STA ABX (R173, R81). -/
def execStaAbx (addr : Word) (s : State) : Result := run (.staAbx addr) (sta (.abx addr)) s

/-- STA ABY (R173, R82). -/
def execStaAby (addr : Word) (s : State) : Result := run (.staAby addr) (sta (.aby addr)) s

/-- STA IZX (R173, R84). -/
def execStaIzx (ptr : Byte) (s : State) : Result := run (.staIzx ptr) (sta (.izx ptr)) s

/-- STA IZY (R173, R85). -/
def execStaIzy (ptr : Byte) (s : State) : Result := run (.staIzy ptr) (sta (.izy ptr)) s

/-- STX ZP (R174, R76). -/
def execStxZp (z : Byte) (s : State) : Result := run (.stxZp z) (stx (.zp z)) s

/-- STX ZPY (R174, R78). -/
def execStxZpy (z : Byte) (s : State) : Result := run (.stxZpy z) (stx (.zpy z)) s

/-- STX ABS (R174, R80). -/
def execStxAbs (addr : Word) (s : State) : Result := run (.stxAbs addr) (stx (.abs addr)) s

/-- STY ZP (R175, R76). -/
def execStyZp (z : Byte) (s : State) : Result := run (.styZp z) (sty (.zp z)) s

/-- STY ZPX (R175, R77). -/
def execStyZpx (z : Byte) (s : State) : Result := run (.styZpx z) (sty (.zpx z)) s

/-- STY ABS (R175, R80). -/
def execStyAbs (addr : Word) (s : State) : Result := run (.styAbs addr) (sty (.abs addr)) s

end Sys2Proof.Machine
end

