-- ==== Sys2Proof/Machine/Logic.lean ====
section
/-! DEFINITION. AND, ORA, EOR and BIT (spec/42_logic_shift.md R110 to R112, R117). -/

namespace Sys2Proof.Machine

/-- Stores a logic result in `A` and sets `N` and `Z` from it. -/
def State.loadA (s : State) (r : Byte) : State := (s.setA r).setNZ r

/-- AND (R110). -/
def andA (src : Source) (s : State) : State := s.loadA (s.a &&& sourceByte src s)

/-- ORA (R111). -/
def oraA (src : Source) (s : State) : State := s.loadA (s.a ||| sourceByte src s)

/-- EOR (R112). -/
def eorA (src : Source) (s : State) : State := s.loadA (s.a ^^^ sourceByte src s)

/-- BIT (R117): `Z` from `A & m`, `N` and `V` from bits 7 and 6 of `m` itself. -/
def bitTest (src : Source) (s : State) : State :=
  let m := sourceByte src s
  s.setFlags { s.flags with z := (s.a &&& m) == 0#8, n := m.getLsbD 7, v := m.getLsbD 6 }

/-! ## One meaning per row -/

/-- AND IMM (R110, R75). -/
def execAndImm (v : Byte) (s : State) : Result := run (.andImm v) (andA (.imm v)) s

/-- AND ZP (R110, R76). -/
def execAndZp (z : Byte) (s : State) : Result := run (.andZp z) (andA (.mem (.zp z))) s

/-- AND ZPX (R110, R77). -/
def execAndZpx (z : Byte) (s : State) : Result := run (.andZpx z) (andA (.mem (.zpx z))) s

/-- AND ABS (R110, R80). -/
def execAndAbs (addr : Word) (s : State) : Result := run (.andAbs addr) (andA (.mem (.abs addr))) s

/-- AND ABX (R110, R81). -/
def execAndAbx (addr : Word) (s : State) : Result := run (.andAbx addr) (andA (.mem (.abx addr))) s

/-- AND ABY (R110, R82). -/
def execAndAby (addr : Word) (s : State) : Result := run (.andAby addr) (andA (.mem (.aby addr))) s

/-- AND IZX (R110, R84). -/
def execAndIzx (ptr : Byte) (s : State) : Result := run (.andIzx ptr) (andA (.mem (.izx ptr))) s

/-- AND IZY (R110, R85). -/
def execAndIzy (ptr : Byte) (s : State) : Result := run (.andIzy ptr) (andA (.mem (.izy ptr))) s

/-- ORA IMM (R111, R75). -/
def execOraImm (v : Byte) (s : State) : Result := run (.oraImm v) (oraA (.imm v)) s

/-- ORA ZP (R111, R76). -/
def execOraZp (z : Byte) (s : State) : Result := run (.oraZp z) (oraA (.mem (.zp z))) s

/-- ORA ZPX (R111, R77). -/
def execOraZpx (z : Byte) (s : State) : Result := run (.oraZpx z) (oraA (.mem (.zpx z))) s

/-- ORA ABS (R111, R80). -/
def execOraAbs (addr : Word) (s : State) : Result := run (.oraAbs addr) (oraA (.mem (.abs addr))) s

/-- ORA ABX (R111, R81). -/
def execOraAbx (addr : Word) (s : State) : Result := run (.oraAbx addr) (oraA (.mem (.abx addr))) s

/-- ORA ABY (R111, R82). -/
def execOraAby (addr : Word) (s : State) : Result := run (.oraAby addr) (oraA (.mem (.aby addr))) s

/-- ORA IZX (R111, R84). -/
def execOraIzx (ptr : Byte) (s : State) : Result := run (.oraIzx ptr) (oraA (.mem (.izx ptr))) s

/-- ORA IZY (R111, R85). -/
def execOraIzy (ptr : Byte) (s : State) : Result := run (.oraIzy ptr) (oraA (.mem (.izy ptr))) s

/-- EOR IMM (R112, R75). -/
def execEorImm (v : Byte) (s : State) : Result := run (.eorImm v) (eorA (.imm v)) s

/-- EOR ZP (R112, R76). -/
def execEorZp (z : Byte) (s : State) : Result := run (.eorZp z) (eorA (.mem (.zp z))) s

/-- EOR ZPX (R112, R77). -/
def execEorZpx (z : Byte) (s : State) : Result := run (.eorZpx z) (eorA (.mem (.zpx z))) s

/-- EOR ABS (R112, R80). -/
def execEorAbs (addr : Word) (s : State) : Result := run (.eorAbs addr) (eorA (.mem (.abs addr))) s

/-- EOR ABX (R112, R81). -/
def execEorAbx (addr : Word) (s : State) : Result := run (.eorAbx addr) (eorA (.mem (.abx addr))) s

/-- EOR ABY (R112, R82). -/
def execEorAby (addr : Word) (s : State) : Result := run (.eorAby addr) (eorA (.mem (.aby addr))) s

/-- EOR IZX (R112, R84). -/
def execEorIzx (ptr : Byte) (s : State) : Result := run (.eorIzx ptr) (eorA (.mem (.izx ptr))) s

/-- EOR IZY (R112, R85). -/
def execEorIzy (ptr : Byte) (s : State) : Result := run (.eorIzy ptr) (eorA (.mem (.izy ptr))) s

/-- BIT ZP (R117, R76). -/
def execBitZp (z : Byte) (s : State) : Result := run (.bitZp z) (bitTest (.mem (.zp z))) s

/-- BIT ABS (R117, R80). -/
def execBitAbs (addr : Word) (s : State) : Result := run (.bitAbs addr) (bitTest (.mem (.abs addr))) s

end Sys2Proof.Machine
end

