-- ==== Sys2Proof/Machine/Shift.lean ====
section
/-! DEFINITION. ASL, LSR, ROL and ROR on `A` or on a memory byte (spec/42_logic_shift.md R113 to R116, R118). -/

namespace Sys2Proof.Machine

/-- Writes the result `r` of a shift back to its operand, with the bit shifted out in `C` and `N`, `Z` from `r`. -/
def storeShift (t : Target) (r : Byte) (out : Bool) (s : State) : State :=
  (targetPut t r s).setFlags ({ s.flags with c := out }.setNZ r)

/-- ASL (R113): bit 7 out, 0 in. -/
def asl (t : Target) (s : State) : State :=
  let v := targetByte t s
  storeShift t (v <<< 1) (v.getLsbD 7) s

/-- LSR (R114): bit 0 out, 0 in. -/
def lsr (t : Target) (s : State) : State :=
  let v := targetByte t s
  storeShift t (v >>> 1) (v.getLsbD 0) s

/-- ROL (R115): bit 7 out, the old `C` in at bit 0. -/
def rol (t : Target) (s : State) : State :=
  let v := targetByte t s
  storeShift t ((v <<< 1) ||| flagBit s.flags.c) (v.getLsbD 7) s

/-- ROR (R116): bit 0 out, the old `C` in at bit 7. -/
def ror (t : Target) (s : State) : State :=
  let v := targetByte t s
  storeShift t ((v >>> 1) ||| (flagBit s.flags.c <<< 7)) (v.getLsbD 0) s

/-! ## One meaning per row -/

/-- ASL ACC (R113, R74). -/
def execAslAcc (s : State) : Result := run .aslAcc (asl .acc) s

/-- ASL ZP (R113, R76). -/
def execAslZp (z : Byte) (s : State) : Result := run (.aslZp z) (asl (.mem (.zp z))) s

/-- ASL ZPX (R113, R77). -/
def execAslZpx (z : Byte) (s : State) : Result := run (.aslZpx z) (asl (.mem (.zpx z))) s

/-- ASL ABS (R113, R80). -/
def execAslAbs (addr : Word) (s : State) : Result := run (.aslAbs addr) (asl (.mem (.abs addr))) s

/-- ASL ABX (R113, R81). -/
def execAslAbx (addr : Word) (s : State) : Result := run (.aslAbx addr) (asl (.mem (.abx addr))) s

/-- LSR ACC (R114, R74). -/
def execLsrAcc (s : State) : Result := run .lsrAcc (lsr .acc) s

/-- LSR ZP (R114, R76). -/
def execLsrZp (z : Byte) (s : State) : Result := run (.lsrZp z) (lsr (.mem (.zp z))) s

/-- LSR ZPX (R114, R77). -/
def execLsrZpx (z : Byte) (s : State) : Result := run (.lsrZpx z) (lsr (.mem (.zpx z))) s

/-- LSR ABS (R114, R80). -/
def execLsrAbs (addr : Word) (s : State) : Result := run (.lsrAbs addr) (lsr (.mem (.abs addr))) s

/-- LSR ABX (R114, R81). -/
def execLsrAbx (addr : Word) (s : State) : Result := run (.lsrAbx addr) (lsr (.mem (.abx addr))) s

/-- ROL ACC (R115, R74). -/
def execRolAcc (s : State) : Result := run .rolAcc (rol .acc) s

/-- ROL ZP (R115, R76). -/
def execRolZp (z : Byte) (s : State) : Result := run (.rolZp z) (rol (.mem (.zp z))) s

/-- ROL ZPX (R115, R77). -/
def execRolZpx (z : Byte) (s : State) : Result := run (.rolZpx z) (rol (.mem (.zpx z))) s

/-- ROL ABS (R115, R80). -/
def execRolAbs (addr : Word) (s : State) : Result := run (.rolAbs addr) (rol (.mem (.abs addr))) s

/-- ROL ABX (R115, R81). -/
def execRolAbx (addr : Word) (s : State) : Result := run (.rolAbx addr) (rol (.mem (.abx addr))) s

/-- ROR ACC (R116, R74). -/
def execRorAcc (s : State) : Result := run .rorAcc (ror .acc) s

/-- ROR ZP (R116, R76). -/
def execRorZp (z : Byte) (s : State) : Result := run (.rorZp z) (ror (.mem (.zp z))) s

/-- ROR ZPX (R116, R77). -/
def execRorZpx (z : Byte) (s : State) : Result := run (.rorZpx z) (ror (.mem (.zpx z))) s

/-- ROR ABS (R116, R80). -/
def execRorAbs (addr : Word) (s : State) : Result := run (.rorAbs addr) (ror (.mem (.abs addr))) s

/-- ROR ABX (R116, R81). -/
def execRorAbx (addr : Word) (s : State) : Result := run (.rorAbx addr) (ror (.mem (.abx addr))) s

end Sys2Proof.Machine
end

