-- ==== Sys2Proof/Machine/Stack.lean ====
section
/-! DEFINITION. PHA, PLA, PHP, PLP, JSR and RTS (spec/45_stack_subroutine_interrupt.md R157 to R162). -/

namespace Sys2Proof.Machine

/-- PHA (R157). -/
def pha (s : State) : State := s.push s.a

/-- PLA (R158): `N` and `Z` from the pulled byte, as PLA_SETS_NZ says (decision D9). -/
def pla (s : State) : State :=
  let t := s.pulled.setA s.pull
  if Config.plaSetsNZ then t.setNZ s.pull else t

/-- PHP (R159): pushes `pack()`. -/
def php (s : State) : State := s.push (pack s.flags)

/-- PLP (R160): all seven flags from the pulled byte. -/
def plp (s : State) : State := s.pulled.setFlags (unpack s.pull)

/-- JSR (R161): pushes the address of its own last byte, high byte first, and jumps. -/
def jsr (addr : Word) (s : State) : State := (s.pushWord (s.pc - 1)).setPc (resolveAbs addr).ea

/-- RTS (R162): pulls low then high, adds 1. -/
def rts (s : State) : State := s.pulled.pulled.setPc (s.pullWord + 1)

/-! ## One meaning per row -/

/-- PHA IMP (R157, R73). -/
def execPha (s : State) : Result := run .pha pha s

/-- PLA IMP (R158, R73). -/
def execPla (s : State) : Result := run .pla pla s

/-- PHP IMP (R159, R73). -/
def execPhp (s : State) : Result := run .php php s

/-- PLP IMP (R160, R73). -/
def execPlp (s : State) : Result := run .plp plp s

/-- JSR ABS (R161, R80). -/
def execJsr (addr : Word) (s : State) : Result := run (.jsr addr) (jsr addr) s

/-- RTS IMP (R162, R73). -/
def execRts (s : State) : Result := run .rts rts s

end Sys2Proof.Machine
end

