-- ==== Sys2Proof/Machine/Transfer.lean ====
section
/-! DEFINITION. TAX, TAY, TXA, TYA, TSX and TXS (spec/46_load_store_transfer_flag.md R176 to R181). -/

namespace Sys2Proof.Machine

/-- TAX (R176). -/
def tax (s : State) : State := (s.setX s.a).setNZ s.a

/-- TAY (R177). -/
def tay (s : State) : State := (s.setY s.a).setNZ s.a

/-- TXA (R178). -/
def txa (s : State) : State := (s.setA s.x).setNZ s.x

/-- TYA (R179). -/
def tya (s : State) : State := (s.setA s.y).setNZ s.y

/-- TSX (R180). -/
def tsx (s : State) : State := (s.setX s.sp).setNZ s.sp

/-- TXS (R181): the one transfer that writes no flag. -/
def txs (s : State) : State := s.setSp s.x

/-! ## One meaning per row -/

/-- TAX IMP (R176, R73). -/
def execTax (s : State) : Result := run .tax tax s

/-- TAY IMP (R177, R73). -/
def execTay (s : State) : Result := run .tay tay s

/-- TXA IMP (R178, R73). -/
def execTxa (s : State) : Result := run .txa txa s

/-- TYA IMP (R179, R73). -/
def execTya (s : State) : Result := run .tya tya s

/-- TSX IMP (R180, R73). -/
def execTsx (s : State) : Result := run .tsx tsx s

/-- TXS IMP (R181, R73). -/
def execTxs (s : State) : Result := run .txs txs s

end Sys2Proof.Machine
end

