-- ==== Sys2Proof/Machine/Fetch.lean ====
section
/-! DEFINITION. Fetching an instruction's bytes (spec/40_step_and_addressing.md R70, spec/20_memory.md R34, R44). -/

namespace Sys2Proof.Machine

/-- The instruction at `PC`: its bytes are at consecutive addresses mod 65536 (R50, R13); none where the opcode byte is
unassigned. A short instruction takes nothing from the bytes after it. -/
def fetch (s : State) : Option Instr :=
  decodeWindow (s.read s.pc) (s.read (s.pc + 1)) (s.read (s.pc + 2))

/-- The three bytes of an instruction given as a number, bit 0 the least significant bit of the first byte; the bits
from `nbits` on are 0. -/
def windowBytes (nbits w : Nat) : List Byte :=
  let w := w % 2 ^ nbits
  [BitVec.ofNat 8 w, BitVec.ofNat 8 (w / 256), BitVec.ofNat 8 (w / 65536)]

end Sys2Proof.Machine
end

