-- ==== Sys2Proof/Machine/Step.lean ====
section
/-! DEFINITION. One step (spec/40_step_and_addressing.md R70), and placing an instruction where the next step fetches
it. -/

namespace Sys2Proof.Machine

/-- One step: the instruction at `PC` runs, or the byte there is unassigned and the step reports `InvalidOpcode`
(R70, R201). -/
def step (s : State) : Host.Outcome State Fault Refusal :=
  match fetch s with
  | some i => exec i s
  | none => s.invalidOpcode (s.read s.pc)

/-- The host's load of one instruction (R24): its bytes at `PC`, `PC` + 1 and `PC` + 2, nothing else changed. Log
entry 3. -/
def State.withFetchWord (s : State) (nbits w : Nat) : State := s.place s.pc (windowBytes nbits w)

end Sys2Proof.Machine
end

