-- ==== Sys2Proof/Safety.lean ====
section
/-! DEFINITION. What counts as a safe run. The block has no halt and no end of a run (spec/70_reset_and_hazards.md
R223, decision D25): a run is a number of steps the host chooses, and it is safe when none of them faults
(spec/93_implementation_defined.md U1). -/

namespace Sys2Proof.Machine

/-- The states that steps keep: memory in canonical form, so that equal memories are equal data. -/
def State.Inv (s : State) : Prop := s.mem.wf = true

/-- From `s`, `k` steps run without a fault and end in `t`. -/
def Reaches (k : Nat) (s t : State) : Prop := Host.Core.run Sys2Proof.core k s = .next t

/-- From `s`, the first `k` steps meet no unassigned opcode. -/
def SafeFor (k : Nat) (s : State) : Prop := ∃ t, Reaches k s t

/-- A run from `s` that never meets an unassigned opcode. -/
def SafeRun (s : State) : Prop := ∀ k, SafeFor k s

/-- The host runs a list of instructions one after the other, whatever memory holds. -/
def execAll : List Instr → State → Result
  | [], s => .next s
  | i :: is, s =>
    match exec i s with
    | .next t => execAll is t
    | .fault r => .fault r
    | .refused r => .refused r

end Sys2Proof.Machine
end

