-- ==== Sys2Proof/Certificates/Slice0/Obligations.lean ====
section
/-! DEFINITION. The statements for the provers. What they say of an instruction is written from the spec's rules in
numbers and bit tests, beside the model's own functions for the address and the operand of a mode (`resolve`,
`sourceByte`, `targetByte`), which the addressing statements pin down. A statement that rests on a decision of
spec/92_eei_decisions.md or on a log entry names it. -/

namespace Sys2Proof.Claims

open Sys2Proof.Machine

/-- The address of the instruction after `i`, which stands at `PC`, mod 65536 (R12, R13). -/
def nextPc (i : Instr) (s : State) : Word := s.pc + BitVec.ofNat 16 i.length

/-- `SetNZ(r)` (R88): `N` is bit 7 of `r`, `Z` is 1 iff `r` is 0, the other five flags stay. -/
def withNZ (r : Byte) (f : Flags) : Flags := { f with n := decide (r.toNat ≥ 128), z := decide (r.toNat = 0) }

/-- `exec i s` answers the next state `t`, and `t` has exactly these registers, flags and program counter. -/
def Ends (i : Instr) (s t : State) (a x y sp : Byte) (f : Flags) (pc : Word) : Prop :=
  exec i s = .next t ∧ t.a = a ∧ t.x = x ∧ t.y = y ∧ t.sp = sp ∧ t.flags = f ∧ t.pc = pc

/-- Every byte of memory reads as before. -/
def KeepsMemory (s t : State) : Prop := ∀ b : Word, t.read b = s.read b

/-- The byte at `ea` now reads `v`, every other byte as before. -/
def Stores (ea : Word) (v : Byte) (s t : State) : Prop := t.read ea = v ∧ ∀ b : Word, b ≠ ea → t.read b = s.read b

/-- The stack address for the offset `sp`: 0x0100 + `sp` (R155; STACK_BASE is decision D4). -/
def onStack (sp : Byte) : Word := 0x0100#16 + sp.setWidth 16

/-- The 16-bit value with these two bytes (R6). -/
def word (hi lo : Byte) : Word := BitVec.ofNat 16 (hi.toNat * 256 + lo.toNat)

/-- Bits 15 to 8 of a word. -/
def high (w : Word) : Byte := BitVec.ofNat 8 (w.toNat / 256)

/-- Bits 7 to 0 of a word. -/
def low (w : Word) : Byte := BitVec.ofNat 8 (w.toNat % 256)

/-- The status byte (R15): C + 2 Z + 4 I + 8 D + 16 B + 32 + 64 V + 128 N. -/
def statusByte (f : Flags) : Byte :=
  BitVec.ofNat 8 (f.c.toNat + 2 * f.z.toNat + 4 * f.i.toNat + 8 * f.d.toNat + 16 * f.b.toNat + 32 + 64 * f.v.toNat +
    128 * f.n.toNat)

/-- The flags of a status byte (R16); bit 5 is ignored. -/
def flagsOf (p : Byte) : Flags :=
  { c := p.toNat.testBit 0, z := p.toNat.testBit 1, i := p.toNat.testBit 2, d := p.toNat.testBit 3,
    b := p.toNat.testBit 4, v := p.toNat.testBit 6, n := p.toNat.testBit 7 }

/-- The decimal number of a packed-BCD byte (R102); for a byte with a nibble above 9 it is the parameter
BCD_INVALID_NIBBLE (decision D15, log entry 18). -/
def decimalValue (b : Byte) : Nat :=
  if b.toNat / 16 ≤ 9 ∧ b.toNat % 16 ≤ 9 then 10 * (b.toNat / 16) + b.toNat % 16 else Config.bcdOfInvalid b

/-- The packed-BCD byte of a number below 100, as a number (R102). -/
def packedDecimal (n : Nat) : Nat := n / 10 * 16 + n % 10

/-- A signed result outside -128 to 127 (R103). -/
def outsideSigned (v : Int) : Bool := decide (v < -128 ∨ 127 < v)

/-- The 105 unassigned opcode bytes, as R55 lists them. -/
def unassignedBytes : List Byte :=
  [0x02#8, 0x03#8, 0x04#8, 0x07#8, 0x0B#8, 0x0C#8, 0x0F#8] ++
  [0x12#8, 0x13#8, 0x14#8, 0x17#8, 0x1A#8, 0x1B#8, 0x1C#8, 0x1F#8] ++
  [0x22#8, 0x23#8, 0x27#8, 0x2B#8, 0x2F#8] ++
  [0x32#8, 0x33#8, 0x34#8, 0x37#8, 0x3A#8, 0x3B#8, 0x3C#8, 0x3F#8] ++
  [0x42#8, 0x43#8, 0x44#8, 0x47#8, 0x4B#8, 0x4F#8] ++
  [0x52#8, 0x53#8, 0x54#8, 0x57#8, 0x5A#8, 0x5B#8, 0x5C#8, 0x5F#8] ++
  [0x62#8, 0x63#8, 0x64#8, 0x67#8, 0x6B#8, 0x6F#8] ++
  [0x72#8, 0x73#8, 0x74#8, 0x77#8, 0x7A#8, 0x7B#8, 0x7C#8, 0x7F#8] ++
  [0x80#8, 0x82#8, 0x83#8, 0x87#8, 0x89#8, 0x8B#8, 0x8F#8] ++
  [0x92#8, 0x93#8, 0x97#8, 0x9B#8, 0x9C#8, 0x9E#8, 0x9F#8] ++
  [0xA3#8, 0xA7#8, 0xAB#8, 0xAF#8] ++ [0xB2#8, 0xB3#8, 0xB7#8, 0xBB#8, 0xBF#8] ++
  [0xC2#8, 0xC3#8, 0xC7#8, 0xCB#8, 0xCF#8] ++
  [0xD2#8, 0xD3#8, 0xD4#8, 0xD7#8, 0xDA#8, 0xDB#8, 0xDC#8, 0xDF#8] ++
  [0xE2#8, 0xE3#8, 0xE7#8, 0xEB#8, 0xEF#8] ++
  [0xF2#8, 0xF3#8, 0xF4#8, 0xF7#8, 0xFA#8, 0xFB#8, 0xFC#8, 0xFF#8]

/-- The 16-bit value stored at the pointer `p` and at `p` + 1 mod 65536 (R35, R83 to R85): no wrap inside a page. -/
def pointed (p : Word) (s : State) : Word := word (s.read (p + 1)) (s.read p)

/-- Whether adding `r` to `base` changes the high byte, mod 65536 (R81, R82, R85, R86). -/
def indexCrosses (base : Word) (r : Byte) : Bool :=
  decide (base.toNat / 256 ≠ (base.toNat + r.toNat) % 65536 / 256)

/-- What `page_crossed` is after the resolver of a mode other than relative (R73 to R78, R80 to R85). -/
def modeCrossing (m : Mode) (s : State) : Bool :=
  match m with
  | .mem (.abx addr) => indexCrosses addr s.x
  | .mem (.aby addr) => indexCrosses addr s.y
  | .mem (.izy p) => indexCrosses (pointed (p.setWidth 16) s) s.y
  | _ => false

/-- The state after a two-byte branch at `PC` (R79, R140, R72): the target is the next instruction plus the signed
offset, mod 65536. -/
def branched (s : State) (off : Byte) (taken : Bool) : State :=
  let next : Word := s.pc + 2
  let target : Word := BitVec.ofInt 16 (next.toNat + off.toInt)
  let crosses := decide (next.toNat / 256 ≠ target.toNat / 256)
  { s with
    pc := if taken then target else next
    pageCrossed := crosses
    cycles := some (if taken then (if crosses then 4 else 3) else 2) }

/-- What a shift or rotate leaves: the result `r` in its operand, the bit shifted out in `C`, `N` and `Z` from `r`, and
nothing else changed (R118). -/
def Shifts (i : Instr) (s t : State) (tg : Target) (r : Byte) (out : Bool) : Prop :=
  let f := withNZ r { s.flags with c := out }
  match tg with
  | .acc => Ends i s t r s.x s.y s.sp f (nextPc i s) ∧ KeepsMemory s t
  | .mem m => Ends i s t s.a s.x s.y s.sp f (nextPc i s) ∧ Stores (resolve m s).ea r s t

/-- The state with `I` at `p`. -/
def withI (p : Bool) (s : State) : State := { s with flags := { s.flags with i := p } }

/-- The state with `B` at `p`. -/
def withB (p : Bool) (s : State) : State := { s with flags := { s.flags with b := p } }

/-- The state with `D` at `p`. -/
def withD (p : Bool) (s : State) : State := { s with flags := { s.flags with d := p } }

/-- The mnemonics that set `PC` themselves (R13). -/
def redirectsPc : List Mnemonic := [.bcc, .bcs, .beq, .bne, .bmi, .bpl, .bvc, .bvs, .jmp, .jsr, .rts, .brk, .rti]

/-- The shifts and rotates. -/
def shiftMnemonics : List Mnemonic := [.asl, .lsr, .rol, .ror]

end Sys2Proof.Claims

open Sys2Proof Sys2Proof.Machine Sys2Proof.Claims

/-! ## Steps, decoding, encoding -/

/-- R70: where the bytes at `PC`, `PC` + 1, `PC` + 2 begin with the instruction `i`, a step is exec of `i` at that very
state. exec itself moves `PC` past the instruction (log entry 7). -/
def Obligations.StepRunsDecodedInstruction : Prop :=
  ∀ (s : State) (i : Instr) (rest : List Byte),
    decode [s.read s.pc, s.read (s.pc + 1), s.read (s.pc + 2)] = .ok i rest → step s = exec i s

/-- Words written out from R54's table and the formats of R51 and R52, one per family: each decodes to the instruction
it stands for. Sanity only. The opcode bytes are decision D1 (log entry 8). That 0x6C is assigned is decision D2 (log
entry 9), and that its operand is one byte, a zero-page pointer, so that 0xEA is left over, is decision D10 (log entry
14). -/
def Obligations.SampleWordsDecode : Prop :=
  decode [0x6D#8, 0x34#8, 0x12#8] = .ok (.adcAbs 0x1234#16) [] ∧
  decode [0x51#8, 0x86#8] = .ok (.eorIzy 0x86#8) [] ∧
  decode [0x7E#8, 0xFF#8, 0x12#8] = .ok (.rorAbx 0x12FF#16) [] ∧
  decode [0xE0#8, 0x03#8] = .ok (.cpxImm 0x03#8) [] ∧
  decode [0xD6#8, 0x10#8] = .ok (.decZpx 0x10#8) [] ∧
  decode [0x70#8, 0xFE#8] = .ok (.bvs 0xFE#8) [] ∧
  decode [0x6C#8, 0x20#8, 0xEA#8] = .ok (.jmpInd 0x0020#16) [0xEA#8] ∧
  decode [0x20#8, 0x34#8, 0x12#8] = .ok (.jsr 0x1234#16) [] ∧
  decode [0x40#8] = .ok .rti [] ∧
  decode [0xB6#8, 0xFF#8] = .ok (.ldxZpy 0xFF#8) [] ∧
  decode [0x9A#8] = .ok .txs [] ∧
  decode [0xB8#8] = .ok .clv []

/-- R50 to R54: decoding the bytes of a well-formed instruction gives it back, with every operand at every value, and
leaves the bytes after it. -/
def Obligations.DecodeOfEncodeIsTheInstruction : Prop :=
  ∀ (i : Instr) (rest : List Byte), WellFormed i = true → decode (encode i ++ rest) = .ok i rest

/-- R51, R56, R59, R83: every operand value is an instruction's, but for an indirect JMP, whose pointer lies in page 0
(decision D10, log entry 14; JMP and BIT are admitted by decision D2, log entry 9); and the encoder gives every
instruction the length of its format, which is 2 for the indirect JMP. -/
def Obligations.WellFormedInstructionsAndTheirLengths : Prop :=
  (∀ i : Instr, (∀ p, i.mode ≠ .mem (.ind p)) → WellFormed i = true) ∧
  (∀ p : Word, WellFormed (.jmpInd p) = true ↔ p.toNat < 256) ∧
  (∀ i : Instr, (encode i).length = i.length) ∧ ∀ p : Word, (Instr.jmpInd p).length = 2

/-- R50 to R55: whatever the decoder reads an instruction from is the encoding of that well-formed instruction,
followed by the rest. -/
def Obligations.EncodeOfDecodeIsTheBytes : Prop :=
  ∀ (bytes : List Byte) (i : Instr) (rest : List Byte),
    decode bytes = .ok i rest → WellFormed i = true ∧ encode i ++ rest = bytes

/-- R55: the decoder rejects exactly the 105 bytes that R55 lists, whatever follows them. -/
def Obligations.RejectedBytesAreTheUnassignedOnes : Prop :=
  ∀ (op : Byte) (rest : List Byte), decode (op :: rest) = .unassigned op ↔ op ∈ unassignedBytes

/-- R201 (decision D3, log entry 5): a step that fetches an unassigned byte reports `InvalidOpcode` of that byte, with
`PC` advanced by one, `page_crossed` 0, no cycle count, and nothing else changed. -/
def Obligations.UnassignedOpcodeStepFaults : Prop :=
  ∀ s : State, s.read s.pc ∈ unassignedBytes →
    step s = .fault (.invalidOpcode (s.read s.pc) { s with pc := s.pc + 1, pageCrossed := false, cycles := none })

/-- R200: a step that fetches an assigned byte completes, whatever the state: no other condition raises an error. -/
def Obligations.AssignedOpcodeStepCompletes : Prop :=
  ∀ s : State, s.read s.pc ∉ unassignedBytes → ∃ t, step s = .next t

/-- R200: every instruction completes in every state. -/
def Obligations.EveryInstructionCompletes : Prop := ∀ (i : Instr) (s : State), ∃ t, exec i s = .next t

/-- The canonical form of memory is kept by every step, also by one that faults. The form is the model's (log entry 2);
it makes equal memories equal data (R19, R30). -/
def Obligations.StepKeepsMemoryCanonical : Prop :=
  ∀ s : State, s.Inv →
    (∀ t, step s = .next t → t.Inv) ∧ (∀ op t, step s = .fault (.invalidOpcode op t) → t.Inv)

/-- The reset state has canonical memory, and `page_crossed` starts at 0 (R23). -/
def Obligations.ResetMemoryIsCanonical : Prop := State.reset.Inv ∧ State.reset.pageCrossed = false

/-- R220: a launch state has every register, every flag and all of memory as the host supplies them, and
`page_crossed` at 0. -/
def Obligations.LaunchStateIsTheHosts : Prop :=
  ∀ (pc : Word) (sp a x y : Byte) (f : Flags) (m : Memory),
    (State.launch pc sp a x y f m).pc = pc ∧ (State.launch pc sp a x y f m).sp = sp ∧
    (State.launch pc sp a x y f m).a = a ∧ (State.launch pc sp a x y f m).x = x ∧
    (State.launch pc sp a x y f m).y = y ∧ (State.launch pc sp a x y f m).flags = f ∧
    (State.launch pc sp a x y f m).mem = m ∧ (State.launch pc sp a x y f m).pageCrossed = false

/-- An instruction that the host places where the next step fetches is the one that step runs. The load is the model's
(log entry 3). -/
def Obligations.PlacedInstructionRunsNext : Prop :=
  ∀ (s : State) (nbits w : Nat) (i : Instr), s.Inv → decodeTableWord nbits w = some i →
    step (s.withFetchWord nbits w) = exec i (s.withFetchWord nbits w)

/-! ## The status byte -/

/-- R15 and R16: the layout of the packed status byte, and what unpacking writes. -/
def Obligations.StatusByteLayout : Prop :=
  (∀ f : Flags, pack f = statusByte f) ∧ ∀ p : Byte, unpack p = flagsOf p

/-- R17: packing and unpacking round-trip. -/
def Obligations.StatusByteRoundTrips : Prop :=
  (∀ f : Flags, unpack (pack f) = f) ∧ ∀ p : Byte, pack (unpack p) = p ||| 0x20#8

/-- The setter of R88, `SetNZ(v)`: it writes `N` from bit 7 of `v` and `Z` from whether `v` is 0; both are cleared as
well as set, and the other five flags stay. Which instructions use the setter is said by the statements about them. -/
def Obligations.SetNzWritesTwoFlags : Prop :=
  ∀ (v : Byte) (f : Flags),
    (f.setNZ v).n = v.toNat.testBit 7 ∧ ((f.setNZ v).z = true ↔ v.toNat = 0) ∧
    (f.setNZ v).c = f.c ∧ (f.setNZ v).i = f.i ∧ (f.setNZ v).d = f.d ∧ (f.setNZ v).b = f.b ∧ (f.setNZ v).v = f.v

/-! ## Addressing -/

/-- R86: the page-cross test says whether the bits 15 to 8 of two addresses differ; so a wrap from 0xFFxx to 0x00xx is
a crossing. -/
def Obligations.PageCrossComparesHighBytes : Prop :=
  (∀ ref a : Word, crossed ref a = true ↔ ref.toNat / 256 ≠ a.toNat / 256) ∧
  ∀ lo lo' : Byte, crossed (word 0xFF#8 lo) (word 0x00#8 lo') = true

/-- R76, R77, R78: the zero page modes give an address in page 0, with the indexed sum wrapped mod 256, and clear
`page_crossed`. -/
def Obligations.ZeroPageModesStayInPageZero : Prop :=
  ∀ (z : Byte) (s : State),
    ((resolve (.zp z) s).ea.toNat = z.toNat ∧ (resolve (.zp z) s).crossed = false) ∧
    ((resolve (.zpx z) s).ea.toNat = (z.toNat + s.x.toNat) % 256 ∧ (resolve (.zpx z) s).crossed = false) ∧
    ((resolve (.zpy z) s).ea.toNat = (z.toNat + s.y.toNat) % 256 ∧ (resolve (.zpy z) s).crossed = false)

/-- R80, R81, R82, R86: the absolute modes give the operand, or the operand plus the index mod 65536, and
`page_crossed` says whether the high byte changed. -/
def Obligations.AbsoluteModesAddTheIndex : Prop :=
  ∀ (addr : Word) (s : State),
    ((resolve (.abs addr) s).ea = addr ∧ (resolve (.abs addr) s).crossed = false) ∧
    ((resolve (.abx addr) s).ea.toNat = (addr.toNat + s.x.toNat) % 65536 ∧
      (resolve (.abx addr) s).crossed = indexCrosses addr s.x) ∧
    ((resolve (.aby addr) s).ea.toNat = (addr.toNat + s.y.toNat) % 65536 ∧
      (resolve (.aby addr) s).crossed = indexCrosses addr s.y)

/-- R83, R84, R85, R35: the three pointer modes. The indexed ones have a pointer in page 0, and `X` is added to it mod
256; the high byte is read at pointer + 1 with no wrap inside the page (decision D11, log entry 15). The pointer of the
indirect mode is one byte too in every well-formed instruction (decision D10, log entry 14); the dereference is the
same for every pointer. -/
def Obligations.PointerModesDereferenceZeroPage : Prop :=
  ∀ s : State,
    (∀ i p, WellFormed i = true → i.mode = .mem (.ind p) → p.toNat < 256) ∧
    (∀ p : Word, (resolve (.ind p) s).ea = pointed p s ∧ (resolve (.ind p) s).crossed = false) ∧
    (∀ p : Byte, (resolve (.izx p) s).ea = pointed (BitVec.ofNat 16 ((p.toNat + s.x.toNat) % 256)) s ∧
      (resolve (.izx p) s).crossed = false) ∧
    (∀ p : Byte, (resolve (.izy p) s).ea.toNat = ((pointed (p.setWidth 16) s).toNat + s.y.toNat) % 65536 ∧
      (resolve (.izy p) s).crossed = indexCrosses (pointed (p.setWidth 16) s) s.y)

/-- R50, R52: the instruction a step fetches is encoded by the bytes at `PC` and after it: the opcode byte, then the
operand bytes in ascending order, the low byte of an address first. The indirect pointer is one byte (decision D10, log
entry 14). -/
def Obligations.OperandBytesFollowTheOpcode : Prop :=
  ∀ (s : State) (i : Instr), fetch s = some i →
    encode i = [s.read s.pc, s.read (s.pc + 1), s.read (s.pc + 2)].take i.length ∧
    (∀ v, i.mode = .imm v → v = s.read (s.pc + 1)) ∧
    (∀ off, i.mode = .rel off → off = s.read (s.pc + 1)) ∧
    (∀ z, i.mode = .mem (.zp z) ∨ i.mode = .mem (.zpx z) ∨ i.mode = .mem (.zpy z) → z = s.read (s.pc + 1)) ∧
    (∀ p, i.mode = .mem (.izx p) ∨ i.mode = .mem (.izy p) → p = s.read (s.pc + 1)) ∧
    (∀ p, i.mode = .mem (.ind p) → p.toNat = (s.read (s.pc + 1)).toNat) ∧
    (∀ addr, i.mode = .mem (.abs addr) ∨ i.mode = .mem (.abx addr) ∨ i.mode = .mem (.aby addr) →
      addr = word (s.read (s.pc + 2)) (s.read (s.pc + 1)))

/-- R12, R13: after every instruction that does not set `PC` itself, `PC` is the address after it, mod 65536. -/
def Obligations.ProgramCounterMovesPastTheInstruction : Prop :=
  ∀ (i : Instr) (s t : State), i.mnemonic ∉ redirectsPc → exec i s = .next t → t.pc = nextPc i s

/-! ## Arithmetic -/

/-- R100 in binary mode and R103: ADC stores `(A + m + C) mod 256`; `C` is the carry out, `V` says whether the signed
sum is outside -128 to 127, `N` and `Z` come from the stored byte. -/
def Obligations.AdcBinaryAddsWithCarry : Prop :=
  ∀ (i : Instr) (s : State), i.mnemonic = .adc → s.flags.d = false →
    ∃ (src : Source) (t : State) (r : Byte), i.mode = src.mode ∧
      (let m := sourceByte src s
       let sum := s.a.toNat + m.toNat + s.flags.c.toNat
       r.toNat = sum % 256 ∧
       Ends i s t r s.x s.y s.sp
        (withNZ r { s.flags with
          c := decide (sum > 255)
          v := outsideSigned (s.a.toInt + m.toInt + s.flags.c.toNat) })
        (nextPc i s)) ∧ KeepsMemory s t

/-- R100 in decimal mode: ADC stores the packed BCD of `(A + m + C) mod 100` and `C` is the BCD carry. `N` and `Z` come
from the stored byte and `V` is what binary mode would give (decision D14, log entry 17). An operand with a nibble above
9 stands for BCD_INVALID_NIBBLE (decision D15, log entry 18). -/
def Obligations.AdcDecimalAddsPackedDigits : Prop :=
  ∀ (i : Instr) (s : State), i.mnemonic = .adc → s.flags.d = true →
    ∃ (src : Source) (t : State) (r : Byte), i.mode = src.mode ∧
      (let m := sourceByte src s
       let sum := decimalValue s.a + decimalValue m + s.flags.c.toNat
       r.toNat = packedDecimal (sum % 100) ∧
       Ends i s t r s.x s.y s.sp
        (withNZ r { s.flags with
          c := decide (sum > 99)
          v := outsideSigned (s.a.toInt + m.toInt + s.flags.c.toNat) })
        (nextPc i s)) ∧ KeepsMemory s t

/-- R101 in binary mode: SBC stores `(A - m - borrow) mod 256` with `borrow = 1 - C`; `C` is 1 when there is no borrow
out; `N` and `Z` come from the stored byte. `V` says whether the signed difference is outside -128 to 127 (decision D13,
log entry 16). -/
def Obligations.SbcBinarySubtractsWithBorrow : Prop :=
  ∀ (i : Instr) (s : State), i.mnemonic = .sbc → s.flags.d = false →
    ∃ (src : Source) (t : State) (r : Byte), i.mode = src.mode ∧
      (let m := sourceByte src s
       let diff : Int := (s.a.toNat : Int) - m.toNat - (1 - s.flags.c.toNat)
       (r.toNat : Int) = diff % 256 ∧
       Ends i s t r s.x s.y s.sp
        (withNZ r { s.flags with
          c := decide (diff ≥ 0)
          v := outsideSigned (s.a.toInt - m.toInt - (1 - s.flags.c.toNat)) })
        (nextPc i s)) ∧ KeepsMemory s t

/-- R101 in decimal mode: SBC stores the packed BCD of `(A - m - borrow) mod 100` and `C` is 1 when there is no decimal
borrow. `N`, `Z`, `V` follow decision D14 (log entry 17), `V` with decision D13 (log entry 16); an operand with a nibble
above 9 stands for BCD_INVALID_NIBBLE (decision D15, log entry 18). -/
def Obligations.SbcDecimalSubtractsPackedDigits : Prop :=
  ∀ (i : Instr) (s : State), i.mnemonic = .sbc → s.flags.d = true →
    ∃ (src : Source) (t : State) (r : Byte), i.mode = src.mode ∧
      (let m := sourceByte src s
       let diff : Int := (decimalValue s.a : Int) - decimalValue m - (1 - s.flags.c.toNat)
       r.toNat = packedDecimal (diff % 100).toNat ∧
       Ends i s t r s.x s.y s.sp
        (withNZ r { s.flags with
          c := decide (diff ≥ 0)
          v := outsideSigned (s.a.toInt - m.toInt - (1 - s.flags.c.toNat)) })
        (nextPc i s)) ∧ KeepsMemory s t

/-! ## Logic, shifts, rotates -/

/-- R110, R111, R112: AND, ORA and EOR put the bitwise result in `A` and set `N` and `Z` from it; nothing else
changes. -/
def Obligations.LogicWritesAccumulatorAndNZ : Prop :=
  ∀ (i : Instr) (s : State),
    (i.mnemonic = .and → ∃ (src : Source) (t : State), i.mode = src.mode ∧
      Ends i s t (s.a &&& sourceByte src s) s.x s.y s.sp (withNZ (s.a &&& sourceByte src s) s.flags) (nextPc i s) ∧
      KeepsMemory s t) ∧
    (i.mnemonic = .ora → ∃ (src : Source) (t : State), i.mode = src.mode ∧
      Ends i s t (s.a ||| sourceByte src s) s.x s.y s.sp (withNZ (s.a ||| sourceByte src s) s.flags) (nextPc i s) ∧
      KeepsMemory s t) ∧
    (i.mnemonic = .eor → ∃ (src : Source) (t : State), i.mode = src.mode ∧
      Ends i s t (s.a ^^^ sourceByte src s) s.x s.y s.sp (withNZ (s.a ^^^ sourceByte src s) s.flags) (nextPc i s) ∧
      KeepsMemory s t)

/-- R113, R114, R118: ASL and LSR shift `A` or a memory byte by one; the bit shifted out goes to `C`. -/
def Obligations.ShiftsMoveOneBitIntoCarry : Prop :=
  ∀ (i : Instr) (s : State), s.Inv →
    (i.mnemonic = .asl → ∃ (tg : Target) (t : State) (r : Byte), i.mode = tg.mode ∧
      r.toNat = 2 * (targetByte tg s).toNat % 256 ∧
      Shifts i s t tg r (decide ((targetByte tg s).toNat ≥ 128))) ∧
    (i.mnemonic = .lsr → ∃ (tg : Target) (t : State) (r : Byte), i.mode = tg.mode ∧
      r.toNat = (targetByte tg s).toNat / 2 ∧
      Shifts i s t tg r (decide ((targetByte tg s).toNat % 2 = 1)))

/-- R115, R116, R118: ROL and ROR rotate `A` or a memory byte by one through `C`. -/
def Obligations.RotatesGoThroughCarry : Prop :=
  ∀ (i : Instr) (s : State), s.Inv →
    (i.mnemonic = .rol → ∃ (tg : Target) (t : State) (r : Byte), i.mode = tg.mode ∧
      r.toNat = (2 * (targetByte tg s).toNat + s.flags.c.toNat) % 256 ∧
      Shifts i s t tg r (decide ((targetByte tg s).toNat ≥ 128))) ∧
    (i.mnemonic = .ror → ∃ (tg : Target) (t : State) (r : Byte), i.mode = tg.mode ∧
      r.toNat = (targetByte tg s).toNat / 2 + 128 * s.flags.c.toNat ∧
      Shifts i s t tg r (decide ((targetByte tg s).toNat % 2 = 1)))

/-- R115, R116: nine rotations of `A` in one direction restore `A` and `C`, and a rotation right undoes one left. -/
def Obligations.NineRotationsRestoreAccumulatorAndCarry : Prop :=
  ∀ s : State,
    (∃ t, execAll (List.replicate 9 .rolAcc) s = .next t ∧ t.a = s.a ∧ t.flags.c = s.flags.c) ∧
    (∃ t, execAll (List.replicate 9 .rorAcc) s = .next t ∧ t.a = s.a ∧ t.flags.c = s.flags.c) ∧
    (∃ t, execAll [.rolAcc, .rorAcc] s = .next t ∧ t.a = s.a ∧ t.flags.c = s.flags.c)

/-- R117 (decision D2, log entry 9): BIT sets `Z` from `A & m`, `N` and `V` from bits 7 and 6 of `m`; nothing else
changes. -/
def Obligations.BitTestsMemoryByte : Prop :=
  ∀ (i : Instr) (s : State), i.mnemonic = .bit →
    ∃ (src : Source) (t : State), i.mode = src.mode ∧
      Ends i s t s.a s.x s.y s.sp
        { s.flags with
          z := decide ((s.a &&& sourceByte src s).toNat = 0)
          n := (sourceByte src s).toNat.testBit 7
          v := (sourceByte src s).toNat.testBit 6 }
        (nextPc i s) ∧ KeepsMemory s t

/-! ## Compare, increment, decrement -/

/-- R134, R125, R126, R127: a compare sets `C` when the register is at least the operand, `N` and `Z` from the 8-bit
difference, and changes nothing else. -/
def Obligations.ComparesSetCarryAndNZ : Prop :=
  ∀ (i : Instr) (s : State) (reg : Byte),
    (i.mnemonic = .cmp ∧ reg = s.a) ∨ (i.mnemonic = .cpx ∧ reg = s.x) ∨ (i.mnemonic = .cpy ∧ reg = s.y) →
    ∃ (src : Source) (t : State), i.mode = src.mode ∧
      Ends i s t s.a s.x s.y s.sp
        (withNZ (BitVec.ofInt 8 ((reg.toNat : Int) - (sourceByte src s).toNat))
          { s.flags with c := decide (reg.toNat ≥ (sourceByte src s).toNat) })
        (nextPc i s) ∧ KeepsMemory s t

/-- R128, R129: INC and DEC add and subtract 1 mod 256 at the effective address and set `N` and `Z`; every other byte,
every register and every other flag stays. -/
def Obligations.IncDecChangeOneMemoryByte : Prop :=
  ∀ (i : Instr) (s : State), s.Inv →
    (i.mnemonic = .inc → ∃ (m : MemMode) (t : State) (r : Byte), i.mode = .mem m ∧
      r.toNat = ((s.read (resolve m s).ea).toNat + 1) % 256 ∧
      Ends i s t s.a s.x s.y s.sp (withNZ r s.flags) (nextPc i s) ∧ Stores (resolve m s).ea r s t) ∧
    (i.mnemonic = .dec → ∃ (m : MemMode) (t : State) (r : Byte), i.mode = .mem m ∧
      r.toNat = ((s.read (resolve m s).ea).toNat + 255) % 256 ∧
      Ends i s t s.a s.x s.y s.sp (withNZ r s.flags) (nextPc i s) ∧ Stores (resolve m s).ea r s t)

/-- R130 to R133: INX, DEX, INY and DEY add or subtract 1 mod 256 and set `N` and `Z`; nothing else changes. -/
def Obligations.IndexRegistersCountModulo256 : Prop :=
  ∀ (s : State),
    (∃ t r, r.toNat = (s.x.toNat + 1) % 256 ∧
      Ends .inx s t s.a r s.y s.sp (withNZ r s.flags) (s.pc + 1) ∧ KeepsMemory s t) ∧
    (∃ t r, r.toNat = (s.x.toNat + 255) % 256 ∧
      Ends .dex s t s.a r s.y s.sp (withNZ r s.flags) (s.pc + 1) ∧ KeepsMemory s t) ∧
    (∃ t r, r.toNat = (s.y.toNat + 1) % 256 ∧
      Ends .iny s t s.a s.x r s.sp (withNZ r s.flags) (s.pc + 1) ∧ KeepsMemory s t) ∧
    (∃ t r, r.toNat = (s.y.toNat + 255) % 256 ∧
      Ends .dey s t s.a s.x r s.sp (withNZ r s.flags) (s.pc + 1) ∧ KeepsMemory s t)

/-- R130 to R133: counting an index register 256 times in one direction restores it. -/
def Obligations.IndexRegistersReturnAfter256Counts : Prop :=
  ∀ s : State,
    (∃ t, execAll (List.replicate 256 .inx) s = .next t ∧ t.x = s.x) ∧
    (∃ t, execAll (List.replicate 256 .dex) s = .next t ∧ t.x = s.x) ∧
    (∃ t, execAll (List.replicate 256 .iny) s = .next t ∧ t.y = s.y) ∧
    (∃ t, execAll (List.replicate 256 .dey) s = .next t ∧ t.y = s.y)

/-! ## Branches and jumps -/

/-- R79, R140 to R148, R72: each branch tests its flag and goes to the next instruction plus the signed offset, or to
the next instruction; it changes nothing but `PC` and what the step reports. Which flag and polarity a mnemonic names is
general knowledge (log entry 29); the page reference is decision D28 (log entry 20). -/
def Obligations.BranchesFollowTheirFlag : Prop :=
  ∀ (s : State) (off : Byte),
    exec (.bcc off) s = .next (branched s off (!s.flags.c)) ∧ exec (.bcs off) s = .next (branched s off s.flags.c) ∧
    exec (.beq off) s = .next (branched s off s.flags.z) ∧ exec (.bne off) s = .next (branched s off (!s.flags.z)) ∧
    exec (.bmi off) s = .next (branched s off s.flags.n) ∧ exec (.bpl off) s = .next (branched s off (!s.flags.n)) ∧
    exec (.bvc off) s = .next (branched s off (!s.flags.v)) ∧ exec (.bvs off) s = .next (branched s off s.flags.v)

/-- R149 (decision D2, log entry 9): JMP goes to the effective address and changes nothing else; the indirect form
goes where the two bytes at its pointer point, with no wrap (decision D11, log entry 15), whichever pointer its operand
gives (decision D10, log entry 14). -/
def Obligations.JmpGoesToTheEffectiveAddress : Prop :=
  ∀ s : State,
    (∀ addr, exec (.jmpAbs addr) s = .next { s with pc := addr, pageCrossed := false, cycles := some 3 }) ∧
    (∀ p : Word, exec (.jmpInd p) s = .next { s with pc := pointed p s, pageCrossed := false, cycles := some 5 })

/-! ## Stack, subroutines, the trap -/

/-- R157, R159, R155: PHA and PHP write one byte at 0x0100 + `SP` and decrement `SP`; PHP's byte is the status byte.
Stack page and discipline are decisions D4 and D5 (log entries 10, 11), the pushed `B` is D27 (log entry 26). -/
def Obligations.PushesStoreAtStackPointer : Prop :=
  ∀ s : State, s.Inv →
    (∃ t, Ends .pha s t s.a s.x s.y (s.sp - 1) s.flags (s.pc + 1) ∧ Stores (onStack s.sp) s.a s t) ∧
    (∃ t, Ends .php s t s.a s.x s.y (s.sp - 1) s.flags (s.pc + 1) ∧ Stores (onStack s.sp) (statusByte s.flags) s t)

/-- R158, R160, R156: PLA and PLP increment `SP` and read the byte there, PLA into `A` with `N` and `Z` (decision D9,
log entry 13), PLP into all seven flags. The discipline is decision D5 (log entry 11). -/
def Obligations.PullsReadAboveStackPointer : Prop :=
  ∀ s : State,
    (∃ t, Ends .pla s t (s.read (onStack (s.sp + 1))) s.x s.y (s.sp + 1)
      (withNZ (s.read (onStack (s.sp + 1))) s.flags) (s.pc + 1) ∧ KeepsMemory s t) ∧
    (∃ t, Ends .plp s t s.a s.x s.y (s.sp + 1) (flagsOf (s.read (onStack (s.sp + 1)))) (s.pc + 1) ∧ KeepsMemory s t)

/-- R161: JSR pushes the address of its own last byte, high byte first, and jumps. Stack page and discipline are
decisions D4, D5, D6 (log entries 10, 11). -/
def Obligations.JsrPushesReturnAddressAndJumps : Prop :=
  ∀ (s : State) (addr : Word), s.Inv →
    ∃ t, Ends (.jsr addr) s t s.a s.x s.y (s.sp - 2) s.flags addr ∧
      t.read (onStack s.sp) = high (s.pc + 2) ∧ t.read (onStack (s.sp - 1)) = low (s.pc + 2) ∧
      ∀ b, b ≠ onStack s.sp → b ≠ onStack (s.sp - 1) → t.read b = s.read b

/-- R162: RTS pulls low then high and goes to the address above. Stack page and discipline are decisions D4, D5, D6
(log entries 10, 11). -/
def Obligations.RtsReturnsAbovePulledAddress : Prop :=
  ∀ s : State,
    ∃ t, Ends .rts s t s.a s.x s.y (s.sp + 2) s.flags
      (word (s.read (onStack (s.sp + 2))) (s.read (onStack (s.sp + 1))) + 1) ∧ KeepsMemory s t

/-- R163, R206: BRK pushes its address + 2, high byte first, then the status byte with `B` set and the old `I`; it sets
`B` and `I` and goes to the vector at 0xFFFE and 0xFFFF. The pushes and the two flags are decisions D7 and D8 (log entry
12), stack page and discipline D4 and D5 (log entries 10, 11). -/
def Obligations.BrkTakesTheTrap : Prop :=
  ∀ s : State, s.Inv →
    ∃ t, Ends .brk s t s.a s.x s.y (s.sp - 3) { s.flags with b := true, i := true }
        (word (s.read 0xFFFF#16) (s.read 0xFFFE#16)) ∧
      t.read (onStack s.sp) = high (s.pc + 2) ∧ t.read (onStack (s.sp - 1)) = low (s.pc + 2) ∧
      t.read (onStack (s.sp - 2)) = statusByte { s.flags with b := true } ∧
      ∀ b, b ≠ onStack s.sp → b ≠ onStack (s.sp - 1) → b ≠ onStack (s.sp - 2) → t.read b = s.read b

/-- R164, R207: RTI pulls the status byte into all seven flags, then `PC` low and high, with no + 1. Stack page and
discipline are decisions D4, D5, D6 (log entries 10, 11). -/
def Obligations.RtiRestoresFlagsAndPc : Prop :=
  ∀ s : State,
    ∃ t, Ends .rti s t s.a s.x s.y (s.sp + 3) (flagsOf (s.read (onStack (s.sp + 1))))
      (word (s.read (onStack (s.sp + 3))) (s.read (onStack (s.sp + 2)))) ∧ KeepsMemory s t

/-- R155, R156: PHA then PLA gives `A` and `SP` back, PHP then PLP gives every flag and `SP` back, at every `SP`.
The discipline is decision D5 (log entry 11). -/
def Obligations.PullUndoesPush : Prop :=
  ∀ s : State, s.Inv →
    (∃ t, execAll [.pha, .pla] s = .next t ∧ t.a = s.a ∧ t.sp = s.sp) ∧
    (∃ t, execAll [.php, .plp] s = .next t ∧ t.flags = s.flags ∧ t.sp = s.sp)

/-- R161, R162: a JSR and the RTS that answers it come back to the instruction after the three-byte JSR, with `SP` and
every register and flag as before. -/
def Obligations.RtsReturnsAfterJsr : Prop :=
  ∀ (s : State) (addr : Word), s.Inv →
    ∃ t, execAll [.jsr addr, .rts] s = .next t ∧ t.pc = s.pc + 3 ∧ t.sp = s.sp ∧ t.flags = s.flags ∧
      t.a = s.a ∧ t.x = s.x ∧ t.y = s.y

/-- R163, R164, R207: a BRK and the RTI that answers it come back to the BRK's address + 2 with `SP` restored, `B` set
and every other flag as before the BRK (decisions D7, D8, log entry 12). -/
def Obligations.RtiReturnsAfterBrk : Prop :=
  ∀ s : State, s.Inv →
    ∃ t, execAll [.brk, .rti] s = .next t ∧ t.pc = s.pc + 2 ∧ t.sp = s.sp ∧ t.flags = { s.flags with b := true } ∧
      t.a = s.a ∧ t.x = s.x ∧ t.y = s.y

/-! ## Loads, stores, transfers, flags -/

/-- R170, R171, R172: a load puts the operand byte in its register and sets `N` and `Z` from it; nothing else
changes. -/
def Obligations.LoadsWriteRegisterAndNZ : Prop :=
  ∀ (i : Instr) (s : State),
    (i.mnemonic = .lda → ∃ (src : Source) (t : State), i.mode = src.mode ∧
      Ends i s t (sourceByte src s) s.x s.y s.sp (withNZ (sourceByte src s) s.flags) (nextPc i s) ∧ KeepsMemory s t) ∧
    (i.mnemonic = .ldx → ∃ (src : Source) (t : State), i.mode = src.mode ∧
      Ends i s t s.a (sourceByte src s) s.y s.sp (withNZ (sourceByte src s) s.flags) (nextPc i s) ∧ KeepsMemory s t) ∧
    (i.mnemonic = .ldy → ∃ (src : Source) (t : State), i.mode = src.mode ∧
      Ends i s t s.a s.x (sourceByte src s) s.sp (withNZ (sourceByte src s) s.flags) (nextPc i s) ∧ KeepsMemory s t)

/-- R173, R174, R175: a store writes its register at the effective address and changes no other byte, no register and
no flag. -/
def Obligations.StoresWriteOneByte : Prop :=
  ∀ (i : Instr) (s : State) (reg : Byte), s.Inv →
    (i.mnemonic = .sta ∧ reg = s.a) ∨ (i.mnemonic = .stx ∧ reg = s.x) ∨ (i.mnemonic = .sty ∧ reg = s.y) →
    ∃ (m : MemMode) (t : State), i.mode = .mem m ∧
      Ends i s t s.a s.x s.y s.sp s.flags (nextPc i s) ∧ Stores (resolve m s).ea reg s t

/-- R176 to R181: the six transfers copy one register to another; all but TXS set `N` and `Z` from it; nothing else
changes. -/
def Obligations.TransfersCopyRegisters : Prop :=
  ∀ s : State,
    (∃ t, Ends .tax s t s.a s.a s.y s.sp (withNZ s.a s.flags) (s.pc + 1) ∧ KeepsMemory s t) ∧
    (∃ t, Ends .tay s t s.a s.x s.a s.sp (withNZ s.a s.flags) (s.pc + 1) ∧ KeepsMemory s t) ∧
    (∃ t, Ends .txa s t s.x s.x s.y s.sp (withNZ s.x s.flags) (s.pc + 1) ∧ KeepsMemory s t) ∧
    (∃ t, Ends .tya s t s.y s.x s.y s.sp (withNZ s.y s.flags) (s.pc + 1) ∧ KeepsMemory s t) ∧
    (∃ t, Ends .tsx s t s.a s.sp s.y s.sp (withNZ s.sp s.flags) (s.pc + 1) ∧ KeepsMemory s t) ∧
    (∃ t, Ends .txs s t s.a s.x s.y s.x s.flags (s.pc + 1) ∧ KeepsMemory s t)

/-- R182 to R188: each flag instruction writes its one flag and changes nothing else. -/
def Obligations.FlagInstructionsWriteOneFlag : Prop :=
  ∀ s : State,
    (∃ t, Ends .sec s t s.a s.x s.y s.sp { s.flags with c := true } (s.pc + 1) ∧ KeepsMemory s t) ∧
    (∃ t, Ends .clc s t s.a s.x s.y s.sp { s.flags with c := false } (s.pc + 1) ∧ KeepsMemory s t) ∧
    (∃ t, Ends .sei s t s.a s.x s.y s.sp { s.flags with i := true } (s.pc + 1) ∧ KeepsMemory s t) ∧
    (∃ t, Ends .cli s t s.a s.x s.y s.sp { s.flags with i := false } (s.pc + 1) ∧ KeepsMemory s t) ∧
    (∃ t, Ends .sed s t s.a s.x s.y s.sp { s.flags with d := true } (s.pc + 1) ∧ KeepsMemory s t) ∧
    (∃ t, Ends .cld s t s.a s.x s.y s.sp { s.flags with d := false } (s.pc + 1) ∧ KeepsMemory s t) ∧
    (∃ t, Ends .clv s t s.a s.x s.y s.sp { s.flags with v := false } (s.pc + 1) ∧ KeepsMemory s t)

/-- R189: NOP advances `PC` by one and takes two cycles; nothing else changes. -/
def Obligations.NopOnlyAdvancesPc : Prop :=
  ∀ s : State, exec .nop s = .next { s with pc := s.pc + 1, pageCrossed := false, cycles := some 2 }

/-! ## Cycle counts and transient state -/

/-- R71, R18: an instruction other than a branch reports its base count, plus one where the page penalty applies and
its resolver crossed a page. The counts themselves are decision D22 (log entry 19). -/
def Obligations.CycleCountIsBasePlusPenalty : Prop :=
  ∀ (i : Instr) (s t : State), (∀ off, i.mode ≠ .rel off) → exec i s = .next t →
    t.pageCrossed = modeCrossing i.mode s ∧
    t.cycles = some (i.baseCycles + if i.pagePenalty = true ∧ modeCrossing i.mode s = true then 1 else 0)

/-- R54, R71: the page penalty applies to exactly the reads in the modes absolute,X, absolute,Y and indirect indexed
(decision D22, log entry 19). -/
def Obligations.PagePenaltyIsForIndexedReads : Prop :=
  ∀ i : Instr, i.pagePenalty = true ↔
    i.mnemonic ∈ [.adc, .sbc, .and, .ora, .eor, .cmp, .lda, .ldx, .ldy] ∧
    ((∃ addr, i.mode = .mem (.abx addr)) ∨ (∃ addr, i.mode = .mem (.aby addr)) ∨ (∃ p, i.mode = .mem (.izy p)))

/-- R224: every step that completes reports a count from 2 to 7 (decision D22, log entries 4, 19). -/
def Obligations.StepReportsTwoToSevenCycles : Prop :=
  ∀ s t : State, step s = .next t → ∃ n, t.cycles = some n ∧ 2 ≤ n ∧ n ≤ 7

/-- R18, R20, R224: neither the `page_crossed` of an earlier step nor its reported count influences a step (decision
D21, log entries 4, 24). -/
def Obligations.TransientStateInfluencesNothing : Prop :=
  ∀ (s : State) (p : Bool) (k : Option Nat), step { s with pageCrossed := p, cycles := k } = step s

/-! ## Whole-machine rules -/

/-- R21: which instructions write `A`, `X`, `Y` and `SP`; a shift writes `A` only in its accumulator form. -/
def Obligations.OnlyListedInstructionsWriteRegisters : Prop :=
  ∀ (i : Instr) (s t : State), exec i s = .next t →
    (i.mnemonic ∉ [.adc, .sbc, .and, .ora, .eor, .lda, .pla, .txa, .tya] →
      (i.mnemonic ∈ shiftMnemonics → i.mode ≠ .acc) → t.a = s.a) ∧
    (i.mnemonic ∉ [.ldx, .tax, .tsx, .inx, .dex] → t.x = s.x) ∧
    (i.mnemonic ∉ [.ldy, .tay, .iny, .dey] → t.y = s.y) ∧
    (i.mnemonic ∉ [.txs, .pha, .php, .jsr, .brk, .pla, .plp, .rts, .rti] → t.sp = s.sp)

/-- R22: which instructions write each flag. -/
def Obligations.OnlyListedInstructionsWriteFlags : Prop :=
  ∀ (i : Instr) (s t : State), exec i s = .next t →
    (i.mnemonic ∉ [.adc, .sbc, .cmp, .cpx, .cpy, .asl, .lsr, .rol, .ror, .sec, .clc, .plp, .rti] →
      t.flags.c = s.flags.c) ∧
    (i.mnemonic ∉ [.adc, .sbc, .and, .ora, .eor, .bit, .asl, .lsr, .rol, .ror, .cmp, .cpx, .cpy, .inc, .dec, .inx, .dex,
        .iny, .dey, .lda, .ldx, .ldy, .tax, .tay, .txa, .tya, .tsx, .pla, .plp, .rti] →
      t.flags.z = s.flags.z ∧ t.flags.n = s.flags.n) ∧
    (i.mnemonic ∉ [.sei, .cli, .brk, .plp, .rti] → t.flags.i = s.flags.i) ∧
    (i.mnemonic ∉ [.sed, .cld, .plp, .rti] → t.flags.d = s.flags.d) ∧
    (i.mnemonic ∉ [.brk, .plp, .rti] → t.flags.b = s.flags.b) ∧
    (i.mnemonic ∉ [.adc, .sbc, .bit, .clv, .plp, .rti] → t.flags.v = s.flags.v)

/-- R33's table of accesses, R41: only stores, INC, DEC, the memory forms of the shifts and the pushes write memory,
and a push writes only on the stack page, 0x0100 to 0x01FF (decision D4, log entry 10). -/
def Obligations.OnlyListedInstructionsWriteMemory : Prop :=
  ∀ (i : Instr) (s t : State), exec i s = .next t →
    (i.mnemonic ∉ [.sta, .stx, .sty, .inc, .dec, .pha, .php, .jsr, .brk] →
      (i.mnemonic ∈ shiftMnemonics → i.mode = .acc) → KeepsMemory s t) ∧
    (s.Inv → i.mnemonic ∈ [.pha, .php, .jsr, .brk] →
      ∀ b : Word, b.toNat < 0x100 ∨ 0x1FF < b.toNat → t.read b = s.read b)

/-- R204, R22, R104: `I` masks nothing, `B` is only stored, `D` matters to ADC and SBC alone: an instruction that does
not read, push or write the flag does the same whatever it holds, and leaves it. -/
def Obligations.StoredFlagsMatterOnlyWhereRead : Prop :=
  ∀ (i : Instr) (s t : State) (p : Bool), exec i s = .next t →
    (i.mnemonic ∉ [.sei, .cli, .php, .plp, .brk, .rti] → exec i (withI p s) = .next (withI p t)) ∧
    (i.mnemonic ∉ [.php, .plp, .brk, .rti] → exec i (withB p s) = .next (withB p t)) ∧
    (i.mnemonic ∉ [.adc, .sbc, .sed, .cld, .php, .plp, .brk, .rti] → exec i (withD p s) = .next (withD p t))

/-- R44: a store is seen by the fetch of the very next instruction: an STA over the opcode byte after itself makes the
next step fetch the stored byte (decision D24, log entry 30). -/
def Obligations.StoreIsSeenByTheNextFetch : Prop :=
  ∀ s : State, s.Inv → fetch s = some (.staAbs (s.pc + 3)) →
    ∃ t, step s = .next t ∧ fetch t = decodeWindow s.a (s.read (s.pc + 4)) (s.read (s.pc + 5))
end

