-- ==== Sys2Proof/Laws/Decode.lean ====
section
/-! SUPPORT. The small lemmas of the decoder: the bytes of a word, what the parameters make of the indirect JMP, and
when a window holds no instruction. -/

namespace Sys2Proof

/-- A pair as a number. -/
theorem pair_toNat (hi lo : Byte) : (pair hi lo).toNat = hi.toNat * 256 + lo.toNat := by
  have e : (pair hi lo).toNat = hi.toNat <<< 8 ||| lo.toNat := BitVec.toNat_append hi lo
  rw [e, Nat.shiftLeft_eq, Nat.mul_comm, ← Nat.two_pow_add_eq_or_of_lt lo.isLt, Nat.mul_comm]

/-- The low byte of a word as a number. -/
theorem loByte_toNat (w : Word) : (loByte w).toNat = w.toNat % 256 := by
  simp [loByte]

/-- The high byte of a word as a number. -/
theorem hiByte_toNat (w : Word) : (hiByte w).toNat = w.toNat / 256 := by
  have := w.isLt
  simp [hiByte, Nat.shiftRight_eq_div_pow]
  omega

/-- A word is the pair of its bytes. -/
@[simp] theorem pair_bytes (w : Word) : pair (hiByte w) (loByte w) = w := by
  apply BitVec.eq_of_toNat_eq
  rw [pair_toNat, loByte_toNat, hiByte_toNat]
  omega

/-- The low byte of a pair. -/
@[simp] theorem loByte_pair (hi lo : Byte) : loByte (pair hi lo) = lo := by
  have := lo.isLt
  apply BitVec.eq_of_toNat_eq
  rw [loByte_toNat, pair_toNat]
  omega

/-- The high byte of a pair. -/
@[simp] theorem hiByte_pair (hi lo : Byte) : hiByte (pair hi lo) = hi := by
  have := lo.isLt
  apply BitVec.eq_of_toNat_eq
  rw [hiByte_toNat, pair_toNat]
  omega

/-- A word below 256 is its own low byte (R83). -/
theorem setWidth_loByte {w : Word} (h : w.toNat < 256) : (loByte w).setWidth 16 = w := by
  apply BitVec.eq_of_toNat_eq
  rw [BitVec.toNat_setWidth, loByte_toNat]
  omega

/-- An indirect JMP is an instruction of this machine where its pointer lies in page 0 (R83). -/
theorem wellFormed_jmpInd {p : Word} : WellFormed (.jmpInd p) = true ↔ p.toNat < 256 := by
  simp [WellFormed, wellFormedUnder, pointerFits, Config.admitJmpBit, Config.indirectPtrBytes]

/-- Every other instruction is, at every value of its operand (R56, R59). -/
theorem wellFormed_of_ne_jmpInd {i : Instr} (h : ∀ p, i ≠ .jmpInd p) : WellFormed i = true := by
  cases i <;> first | rfl | exact absurd rfl (h _)

/-- A zero-page pointer in an indirect JMP is well-formed: what the decoder makes of one operand byte. -/
@[simp] theorem wellFormed_jmpInd_byte (b : Byte) : WellFormed (.jmpInd (b.setWidth 16)) = true := by
  have := b.isLt
  rw [wellFormed_jmpInd, BitVec.toNat_setWidth]
  omega

/-- The bytes of an indirect JMP on this machine: the opcode byte and one byte of pointer (R51). -/
@[simp] theorem encode_jmpInd_byte (b : Byte) : encode (.jmpInd (b.setWidth 16)) = [0x6C#8, b] := by
  have e : loByte (b.setWidth 16) = b := by
    have := b.isLt
    apply BitVec.eq_of_toNat_eq
    rw [loByte_toNat, BitVec.toNat_setWidth]
    omega
  show [0x6C#8, loByte (b.setWidth 16)] = _
  rw [e]

/-- JMP and BIT are admitted on this machine (R59): the decoder looks every opcode up in the whole table. -/
theorem formOf_eq (op : Byte) : formOf op = Config.opcodeMap.lookup op := rfl

/-- Three bytes always hold the operand bytes a form waits for: a window fails only where its opcode is unassigned. -/
theorem decodeWindow_eq_none {b0 b1 b2 : Byte} : decodeWindow b0 b1 b2 = none ↔ formOf b0 = none := by
  simp only [decodeWindow, decode]
  cases formOf b0 with
  | none => simp
  | some f => cases f <;> simp [Form.complete]

/-- Each constructor of `Form` completes to its instruction. -/
@[simp] theorem Form.complete_bare (i : Instr) (r : List Byte) : (Form.bare i).complete r = .ok i r := by
  cases r <;> rfl

@[simp] theorem Form.complete_byte (f : Byte → Instr) (b : Byte) (r : List Byte) :
    (Form.byte f).complete (b :: r) = .ok (f b) r := rfl

@[simp] theorem Form.complete_word (f : Word → Instr) (lo hi : Byte) (r : List Byte) :
    (Form.word f).complete (lo :: hi :: r) = .ok (f (pair hi lo)) r := rfl

end Sys2Proof
end

