-- ==== Sys2Proof/Laws/State.lean ====
section
/-! SUPPORT. One lemma per field per update of State, true by rfl and tagged simp, so that no proof unfolds a record
update; and what each update does to a read of memory. -/

namespace Sys2Proof.Machine

/-! ### setPc -/

@[simp] theorem State.setPc_pc (s : State) (v : Word) : (s.setPc v).pc = v := rfl
@[simp] theorem State.setPc_sp (s : State) (v : Word) : (s.setPc v).sp = s.sp := rfl
@[simp] theorem State.setPc_a (s : State) (v : Word) : (s.setPc v).a = s.a := rfl
@[simp] theorem State.setPc_x (s : State) (v : Word) : (s.setPc v).x = s.x := rfl
@[simp] theorem State.setPc_y (s : State) (v : Word) : (s.setPc v).y = s.y := rfl
@[simp] theorem State.setPc_flags (s : State) (v : Word) : (s.setPc v).flags = s.flags := rfl
@[simp] theorem State.setPc_pageCrossed (s : State) (v : Word) : (s.setPc v).pageCrossed = s.pageCrossed := rfl
@[simp] theorem State.setPc_cycles (s : State) (v : Word) : (s.setPc v).cycles = s.cycles := rfl
@[simp] theorem State.setPc_mem (s : State) (v : Word) : (s.setPc v).mem = s.mem := rfl
@[simp] theorem State.setPc_read (s : State) (v : Word) (b : Word) : (s.setPc v).read b = s.read b := rfl
@[simp] theorem State.setPc_readPointer (s : State) (v : Word) (q : Word) : (s.setPc v).readPointer q = s.readPointer q := rfl
@[simp] theorem State.setPc_read16 (s : State) (v : Word) (b : Word) : (s.setPc v).read16 b = s.read16 b := rfl

/-! ### setSp -/

@[simp] theorem State.setSp_pc (s : State) (v : Byte) : (s.setSp v).pc = s.pc := rfl
@[simp] theorem State.setSp_sp (s : State) (v : Byte) : (s.setSp v).sp = v := rfl
@[simp] theorem State.setSp_a (s : State) (v : Byte) : (s.setSp v).a = s.a := rfl
@[simp] theorem State.setSp_x (s : State) (v : Byte) : (s.setSp v).x = s.x := rfl
@[simp] theorem State.setSp_y (s : State) (v : Byte) : (s.setSp v).y = s.y := rfl
@[simp] theorem State.setSp_flags (s : State) (v : Byte) : (s.setSp v).flags = s.flags := rfl
@[simp] theorem State.setSp_pageCrossed (s : State) (v : Byte) : (s.setSp v).pageCrossed = s.pageCrossed := rfl
@[simp] theorem State.setSp_cycles (s : State) (v : Byte) : (s.setSp v).cycles = s.cycles := rfl
@[simp] theorem State.setSp_mem (s : State) (v : Byte) : (s.setSp v).mem = s.mem := rfl
@[simp] theorem State.setSp_read (s : State) (v : Byte) (b : Word) : (s.setSp v).read b = s.read b := rfl
@[simp] theorem State.setSp_readPointer (s : State) (v : Byte) (q : Word) : (s.setSp v).readPointer q = s.readPointer q := rfl
@[simp] theorem State.setSp_read16 (s : State) (v : Byte) (b : Word) : (s.setSp v).read16 b = s.read16 b := rfl

/-! ### setA -/

@[simp] theorem State.setA_pc (s : State) (v : Byte) : (s.setA v).pc = s.pc := rfl
@[simp] theorem State.setA_sp (s : State) (v : Byte) : (s.setA v).sp = s.sp := rfl
@[simp] theorem State.setA_a (s : State) (v : Byte) : (s.setA v).a = v := rfl
@[simp] theorem State.setA_x (s : State) (v : Byte) : (s.setA v).x = s.x := rfl
@[simp] theorem State.setA_y (s : State) (v : Byte) : (s.setA v).y = s.y := rfl
@[simp] theorem State.setA_flags (s : State) (v : Byte) : (s.setA v).flags = s.flags := rfl
@[simp] theorem State.setA_pageCrossed (s : State) (v : Byte) : (s.setA v).pageCrossed = s.pageCrossed := rfl
@[simp] theorem State.setA_cycles (s : State) (v : Byte) : (s.setA v).cycles = s.cycles := rfl
@[simp] theorem State.setA_mem (s : State) (v : Byte) : (s.setA v).mem = s.mem := rfl
@[simp] theorem State.setA_read (s : State) (v : Byte) (b : Word) : (s.setA v).read b = s.read b := rfl
@[simp] theorem State.setA_readPointer (s : State) (v : Byte) (q : Word) : (s.setA v).readPointer q = s.readPointer q := rfl
@[simp] theorem State.setA_read16 (s : State) (v : Byte) (b : Word) : (s.setA v).read16 b = s.read16 b := rfl

/-! ### setX -/

@[simp] theorem State.setX_pc (s : State) (v : Byte) : (s.setX v).pc = s.pc := rfl
@[simp] theorem State.setX_sp (s : State) (v : Byte) : (s.setX v).sp = s.sp := rfl
@[simp] theorem State.setX_a (s : State) (v : Byte) : (s.setX v).a = s.a := rfl
@[simp] theorem State.setX_x (s : State) (v : Byte) : (s.setX v).x = v := rfl
@[simp] theorem State.setX_y (s : State) (v : Byte) : (s.setX v).y = s.y := rfl
@[simp] theorem State.setX_flags (s : State) (v : Byte) : (s.setX v).flags = s.flags := rfl
@[simp] theorem State.setX_pageCrossed (s : State) (v : Byte) : (s.setX v).pageCrossed = s.pageCrossed := rfl
@[simp] theorem State.setX_cycles (s : State) (v : Byte) : (s.setX v).cycles = s.cycles := rfl
@[simp] theorem State.setX_mem (s : State) (v : Byte) : (s.setX v).mem = s.mem := rfl
@[simp] theorem State.setX_read (s : State) (v : Byte) (b : Word) : (s.setX v).read b = s.read b := rfl
@[simp] theorem State.setX_readPointer (s : State) (v : Byte) (q : Word) : (s.setX v).readPointer q = s.readPointer q := rfl
@[simp] theorem State.setX_read16 (s : State) (v : Byte) (b : Word) : (s.setX v).read16 b = s.read16 b := rfl

/-! ### setY -/

@[simp] theorem State.setY_pc (s : State) (v : Byte) : (s.setY v).pc = s.pc := rfl
@[simp] theorem State.setY_sp (s : State) (v : Byte) : (s.setY v).sp = s.sp := rfl
@[simp] theorem State.setY_a (s : State) (v : Byte) : (s.setY v).a = s.a := rfl
@[simp] theorem State.setY_x (s : State) (v : Byte) : (s.setY v).x = s.x := rfl
@[simp] theorem State.setY_y (s : State) (v : Byte) : (s.setY v).y = v := rfl
@[simp] theorem State.setY_flags (s : State) (v : Byte) : (s.setY v).flags = s.flags := rfl
@[simp] theorem State.setY_pageCrossed (s : State) (v : Byte) : (s.setY v).pageCrossed = s.pageCrossed := rfl
@[simp] theorem State.setY_cycles (s : State) (v : Byte) : (s.setY v).cycles = s.cycles := rfl
@[simp] theorem State.setY_mem (s : State) (v : Byte) : (s.setY v).mem = s.mem := rfl
@[simp] theorem State.setY_read (s : State) (v : Byte) (b : Word) : (s.setY v).read b = s.read b := rfl
@[simp] theorem State.setY_readPointer (s : State) (v : Byte) (q : Word) : (s.setY v).readPointer q = s.readPointer q := rfl
@[simp] theorem State.setY_read16 (s : State) (v : Byte) (b : Word) : (s.setY v).read16 b = s.read16 b := rfl

/-! ### setFlags -/

@[simp] theorem State.setFlags_pc (s : State) (f : Flags) : (s.setFlags f).pc = s.pc := rfl
@[simp] theorem State.setFlags_sp (s : State) (f : Flags) : (s.setFlags f).sp = s.sp := rfl
@[simp] theorem State.setFlags_a (s : State) (f : Flags) : (s.setFlags f).a = s.a := rfl
@[simp] theorem State.setFlags_x (s : State) (f : Flags) : (s.setFlags f).x = s.x := rfl
@[simp] theorem State.setFlags_y (s : State) (f : Flags) : (s.setFlags f).y = s.y := rfl
@[simp] theorem State.setFlags_flags (s : State) (f : Flags) : (s.setFlags f).flags = f := rfl
@[simp] theorem State.setFlags_pageCrossed (s : State) (f : Flags) : (s.setFlags f).pageCrossed = s.pageCrossed := rfl
@[simp] theorem State.setFlags_cycles (s : State) (f : Flags) : (s.setFlags f).cycles = s.cycles := rfl
@[simp] theorem State.setFlags_mem (s : State) (f : Flags) : (s.setFlags f).mem = s.mem := rfl
@[simp] theorem State.setFlags_read (s : State) (f : Flags) (b : Word) : (s.setFlags f).read b = s.read b := rfl
@[simp] theorem State.setFlags_readPointer (s : State) (f : Flags) (q : Word) : (s.setFlags f).readPointer q = s.readPointer q := rfl
@[simp] theorem State.setFlags_read16 (s : State) (f : Flags) (b : Word) : (s.setFlags f).read16 b = s.read16 b := rfl

/-! ### setPageCrossed -/

@[simp] theorem State.setPageCrossed_pc (s : State) (p : Bool) : (s.setPageCrossed p).pc = s.pc := rfl
@[simp] theorem State.setPageCrossed_sp (s : State) (p : Bool) : (s.setPageCrossed p).sp = s.sp := rfl
@[simp] theorem State.setPageCrossed_a (s : State) (p : Bool) : (s.setPageCrossed p).a = s.a := rfl
@[simp] theorem State.setPageCrossed_x (s : State) (p : Bool) : (s.setPageCrossed p).x = s.x := rfl
@[simp] theorem State.setPageCrossed_y (s : State) (p : Bool) : (s.setPageCrossed p).y = s.y := rfl
@[simp] theorem State.setPageCrossed_flags (s : State) (p : Bool) : (s.setPageCrossed p).flags = s.flags := rfl
@[simp] theorem State.setPageCrossed_pageCrossed (s : State) (p : Bool) : (s.setPageCrossed p).pageCrossed = p := rfl
@[simp] theorem State.setPageCrossed_cycles (s : State) (p : Bool) : (s.setPageCrossed p).cycles = s.cycles := rfl
@[simp] theorem State.setPageCrossed_mem (s : State) (p : Bool) : (s.setPageCrossed p).mem = s.mem := rfl
@[simp] theorem State.setPageCrossed_read (s : State) (p : Bool) (b : Word) : (s.setPageCrossed p).read b = s.read b := rfl
@[simp] theorem State.setPageCrossed_readPointer (s : State) (p : Bool) (q : Word) : (s.setPageCrossed p).readPointer q = s.readPointer q := rfl
@[simp] theorem State.setPageCrossed_read16 (s : State) (p : Bool) (b : Word) : (s.setPageCrossed p).read16 b = s.read16 b := rfl

/-! ### setCycles -/

@[simp] theorem State.setCycles_pc (s : State) (k : Option Nat) : (s.setCycles k).pc = s.pc := rfl
@[simp] theorem State.setCycles_sp (s : State) (k : Option Nat) : (s.setCycles k).sp = s.sp := rfl
@[simp] theorem State.setCycles_a (s : State) (k : Option Nat) : (s.setCycles k).a = s.a := rfl
@[simp] theorem State.setCycles_x (s : State) (k : Option Nat) : (s.setCycles k).x = s.x := rfl
@[simp] theorem State.setCycles_y (s : State) (k : Option Nat) : (s.setCycles k).y = s.y := rfl
@[simp] theorem State.setCycles_flags (s : State) (k : Option Nat) : (s.setCycles k).flags = s.flags := rfl
@[simp] theorem State.setCycles_pageCrossed (s : State) (k : Option Nat) : (s.setCycles k).pageCrossed = s.pageCrossed := rfl
@[simp] theorem State.setCycles_cycles (s : State) (k : Option Nat) : (s.setCycles k).cycles = k := rfl
@[simp] theorem State.setCycles_mem (s : State) (k : Option Nat) : (s.setCycles k).mem = s.mem := rfl
@[simp] theorem State.setCycles_read (s : State) (k : Option Nat) (b : Word) : (s.setCycles k).read b = s.read b := rfl
@[simp] theorem State.setCycles_readPointer (s : State) (k : Option Nat) (q : Word) : (s.setCycles k).readPointer q = s.readPointer q := rfl
@[simp] theorem State.setCycles_read16 (s : State) (k : Option Nat) (b : Word) : (s.setCycles k).read16 b = s.read16 b := rfl

/-! ### setNZ -/

@[simp] theorem State.setNZ_pc (s : State) (v : Byte) : (s.setNZ v).pc = s.pc := rfl
@[simp] theorem State.setNZ_sp (s : State) (v : Byte) : (s.setNZ v).sp = s.sp := rfl
@[simp] theorem State.setNZ_a (s : State) (v : Byte) : (s.setNZ v).a = s.a := rfl
@[simp] theorem State.setNZ_x (s : State) (v : Byte) : (s.setNZ v).x = s.x := rfl
@[simp] theorem State.setNZ_y (s : State) (v : Byte) : (s.setNZ v).y = s.y := rfl
@[simp] theorem State.setNZ_flags (s : State) (v : Byte) : (s.setNZ v).flags = s.flags.setNZ v := rfl
@[simp] theorem State.setNZ_pageCrossed (s : State) (v : Byte) : (s.setNZ v).pageCrossed = s.pageCrossed := rfl
@[simp] theorem State.setNZ_cycles (s : State) (v : Byte) : (s.setNZ v).cycles = s.cycles := rfl
@[simp] theorem State.setNZ_mem (s : State) (v : Byte) : (s.setNZ v).mem = s.mem := rfl
@[simp] theorem State.setNZ_read (s : State) (v : Byte) (b : Word) : (s.setNZ v).read b = s.read b := rfl
@[simp] theorem State.setNZ_readPointer (s : State) (v : Byte) (q : Word) : (s.setNZ v).readPointer q = s.readPointer q := rfl
@[simp] theorem State.setNZ_read16 (s : State) (v : Byte) (b : Word) : (s.setNZ v).read16 b = s.read16 b := rfl

/-! ### write -/

@[simp] theorem State.write_pc (s : State) (b : Word) (v : Byte) : (s.write b v).pc = s.pc := rfl
@[simp] theorem State.write_sp (s : State) (b : Word) (v : Byte) : (s.write b v).sp = s.sp := rfl
@[simp] theorem State.write_a (s : State) (b : Word) (v : Byte) : (s.write b v).a = s.a := rfl
@[simp] theorem State.write_x (s : State) (b : Word) (v : Byte) : (s.write b v).x = s.x := rfl
@[simp] theorem State.write_y (s : State) (b : Word) (v : Byte) : (s.write b v).y = s.y := rfl
@[simp] theorem State.write_flags (s : State) (b : Word) (v : Byte) : (s.write b v).flags = s.flags := rfl
@[simp] theorem State.write_pageCrossed (s : State) (b : Word) (v : Byte) : (s.write b v).pageCrossed = s.pageCrossed := rfl
@[simp] theorem State.write_cycles (s : State) (b : Word) (v : Byte) : (s.write b v).cycles = s.cycles := rfl
@[simp] theorem State.write_mem (s : State) (b : Word) (v : Byte) : (s.write b v).mem = s.mem.write b v := rfl

/-! ### push -/

@[simp] theorem State.push_pc (s : State) (v : Byte) : (s.push v).pc = s.pc := rfl
@[simp] theorem State.push_sp (s : State) (v : Byte) : (s.push v).sp = s.sp - 1 := rfl
@[simp] theorem State.push_a (s : State) (v : Byte) : (s.push v).a = s.a := rfl
@[simp] theorem State.push_x (s : State) (v : Byte) : (s.push v).x = s.x := rfl
@[simp] theorem State.push_y (s : State) (v : Byte) : (s.push v).y = s.y := rfl
@[simp] theorem State.push_flags (s : State) (v : Byte) : (s.push v).flags = s.flags := rfl
@[simp] theorem State.push_pageCrossed (s : State) (v : Byte) : (s.push v).pageCrossed = s.pageCrossed := rfl
@[simp] theorem State.push_cycles (s : State) (v : Byte) : (s.push v).cycles = s.cycles := rfl
@[simp] theorem State.push_mem (s : State) (v : Byte) : (s.push v).mem = s.mem.write (stackAddress s.sp) v := rfl

/-! ### pulled -/

@[simp] theorem State.pulled_pc (s : State) : s.pulled.pc = s.pc := rfl
@[simp] theorem State.pulled_sp (s : State) : s.pulled.sp = s.sp + 1 := rfl
@[simp] theorem State.pulled_a (s : State) : s.pulled.a = s.a := rfl
@[simp] theorem State.pulled_x (s : State) : s.pulled.x = s.x := rfl
@[simp] theorem State.pulled_y (s : State) : s.pulled.y = s.y := rfl
@[simp] theorem State.pulled_flags (s : State) : s.pulled.flags = s.flags := rfl
@[simp] theorem State.pulled_pageCrossed (s : State) : s.pulled.pageCrossed = s.pageCrossed := rfl
@[simp] theorem State.pulled_cycles (s : State) : s.pulled.cycles = s.cycles := rfl
@[simp] theorem State.pulled_mem (s : State) : s.pulled.mem = s.mem := rfl
@[simp] theorem State.pulled_read (s : State) (b : Word) : s.pulled.read b = s.read b := rfl
@[simp] theorem State.pulled_readPointer (s : State) (q : Word) : s.pulled.readPointer q = s.readPointer q := rfl
@[simp] theorem State.pulled_read16 (s : State) (b : Word) : s.pulled.read16 b = s.read16 b := rfl

/-! ### pushWord -/

@[simp] theorem State.pushWord_pc (s : State) (w : Word) : (s.pushWord w).pc = s.pc := rfl
@[simp] theorem State.pushWord_sp (s : State) (w : Word) : (s.pushWord w).sp = s.sp - 1 - 1 := rfl
@[simp] theorem State.pushWord_a (s : State) (w : Word) : (s.pushWord w).a = s.a := rfl
@[simp] theorem State.pushWord_x (s : State) (w : Word) : (s.pushWord w).x = s.x := rfl
@[simp] theorem State.pushWord_y (s : State) (w : Word) : (s.pushWord w).y = s.y := rfl
@[simp] theorem State.pushWord_flags (s : State) (w : Word) : (s.pushWord w).flags = s.flags := rfl
@[simp] theorem State.pushWord_pageCrossed (s : State) (w : Word) : (s.pushWord w).pageCrossed = s.pageCrossed := rfl
@[simp] theorem State.pushWord_cycles (s : State) (w : Word) : (s.pushWord w).cycles = s.cycles := rfl
@[simp] theorem State.pushWord_mem (s : State) (w : Word) : (s.pushWord w).mem = (s.mem.write (stackAddress s.sp) (hiByte w)).write (stackAddress (s.sp - 1)) (loByte w) := rfl

end Sys2Proof.Machine
end

