-- ==== Sys2Proof/Laws/Operands.lean ====
section
/-! SUPPORT. What entering an instruction does to the state, and that it moves no operand: the resolvers of the memory
modes read only `X`, `Y` and memory. -/

namespace Sys2Proof.Machine

/-! ### enter -/

@[simp] theorem enter_pc (i : Instr) (s : State) : (enter i s).pc = s.pc + BitVec.ofNat 16 i.length := rfl
@[simp] theorem enter_sp (i : Instr) (s : State) : (enter i s).sp = s.sp := rfl
@[simp] theorem enter_a (i : Instr) (s : State) : (enter i s).a = s.a := rfl
@[simp] theorem enter_x (i : Instr) (s : State) : (enter i s).x = s.x := rfl
@[simp] theorem enter_y (i : Instr) (s : State) : (enter i s).y = s.y := rfl
@[simp] theorem enter_flags (i : Instr) (s : State) : (enter i s).flags = s.flags := rfl
@[simp] theorem enter_cycles (i : Instr) (s : State) : (enter i s).cycles = s.cycles := rfl
@[simp] theorem enter_mem (i : Instr) (s : State) : (enter i s).mem = s.mem := rfl
@[simp] theorem enter_read (i : Instr) (s : State) (a : Word) : (enter i s).read a = s.read a := rfl
@[simp] theorem enter_read16 (i : Instr) (s : State) (a : Word) : (enter i s).read16 a = s.read16 a := rfl
@[simp] theorem enter_readPointer (i : Instr) (s : State) (p : Word) : (enter i s).readPointer p = s.readPointer p := rfl

/-- What the resolver of the mode leaves in `page_crossed`, with `PC` past the instruction. -/
theorem enter_pageCrossed (i : Instr) (s : State) :
    (enter i s).pageCrossed = modeCrosses i.mode (s.setPc (s.pc + BitVec.ofNat 16 i.length)) := by
  unfold enter
  cases h : i.mode with
  | mem m => cases m <;> rfl
  | _ => rfl

/-- A memory mode resolves alike in two states with the same `X`, `Y` and memory (R87). -/
theorem resolve_congr {s t : State} (m : MemMode) (hx : t.x = s.x) (hy : t.y = s.y) (hm : t.mem = s.mem) :
    resolve m t = resolve m s := by
  cases m <;> simp [resolve, resolveIndirect, State.readPointer, State.read16, State.read, hx, hy, hm]

@[simp] theorem resolve_enter (m : MemMode) (i : Instr) (s : State) : resolve m (enter i s) = resolve m s :=
  resolve_congr m rfl rfl rfl

@[simp] theorem sourceByte_enter (src : Source) (i : Instr) (s : State) :
    sourceByte src (enter i s) = sourceByte src s := by
  cases src <;> simp [sourceByte]

@[simp] theorem targetByte_enter (t : Target) (i : Instr) (s : State) :
    targetByte t (enter i s) = targetByte t s := by
  cases t <;> simp [targetByte]

/-! ### Running -/

/-- An instruction that runs answers a next state: its effect on the entered state, with the count of R71. -/
theorem run_eq (i : Instr) (f : State → State) (s : State) :
    run i f s = .next ((f (enter i s)).setCycles (some (cycleCount i (enter i s).pageCrossed))) := rfl

/-- A branch that is taken: the entered state with `PC` at the target, the count of R72. -/
theorem branch_taken (i : Instr) (off : Byte) {cond : Flags → Bool} {s : State} (h : cond s.flags = true) :
    branch i off cond s =
      .next (((enter i s).setPc (resolveRelative off (s.pc + BitVec.ofNat 16 i.length)).ea).setCycles
        (some (branchCycles true (enter i s).pageCrossed))) := by
  simp [branch, h]

/-- A branch that is not taken: the entered state, the count of R72. -/
theorem branch_not_taken (i : Instr) (off : Byte) {cond : Flags → Bool} {s : State} (h : cond s.flags = false) :
    branch i off cond s = .next ((enter i s).setCycles (some (branchCycles false (enter i s).pageCrossed))) := by
  simp [branch, h]

end Sys2Proof.Machine
end

