-- ==== Sys2Proof/Laws/Dispatch.lean ====
section
/-! SUPPORT. What the dispatch does, said once: the effect that a mnemonic has in a mode, and that exec runs it.
A proof about an instruction cites `exec_effect` and then splits on the mode, not on the 151 constructors. -/

namespace Sys2Proof.Machine

/-- How an instruction runs: with an effect of its own, or as a branch with a condition. -/
inductive Effect where
  | plain (f : State → State)
  | branch (off : Byte) (cond : Flags → Bool)

/-- What an effect answers for the instruction `i`. -/
def Effect.result (e : Effect) (i : Instr) (s : State) : Result :=
  match e with
  | .plain f => run i f s
  | .branch off cond => Machine.branch i off cond s

/-- An effect that reads a source operand: none in a mode that has none. -/
def onSource (f : Source → State → State) : Mode → Option Effect
  | .imm v => some (.plain (f (.imm v)))
  | .mem m => some (.plain (f (.mem m)))
  | _ => none

/-- An effect on `A` or on a memory byte. -/
def onTarget (f : Target → State → State) : Mode → Option Effect
  | .acc => some (.plain (f .acc))
  | .mem m => some (.plain (f (.mem m)))
  | _ => none

/-- An effect on an effective address. -/
def onMemory (f : MemMode → State → State) : Mode → Option Effect
  | .mem m => some (.plain (f m))
  | _ => none

/-- An effect without operand. -/
def onNothing (f : State → State) : Mode → Option Effect
  | .imp => some (.plain f)
  | _ => none

/-- A branch. -/
def onOffset (cond : Flags → Bool) : Mode → Option Effect
  | .rel off => some (.branch off cond)
  | _ => none

/-- JSR's operand is an absolute address. -/
def onAbsolute (f : Word → State → State) : Mode → Option Effect
  | .mem (.abs a) => some (.plain (f a))
  | _ => none

/-- The effect of each mnemonic. -/
def effectOf : Mnemonic → Mode → Option Effect
  | .adc => onSource adc
  | .sbc => onSource sbc
  | .and => onSource andA
  | .ora => onSource oraA
  | .eor => onSource eorA
  | .bit => onSource bitTest
  | .cmp => onSource cmp
  | .cpx => onSource cpx
  | .cpy => onSource cpy
  | .lda => onSource lda
  | .ldx => onSource ldx
  | .ldy => onSource ldy
  | .asl => onTarget asl
  | .lsr => onTarget lsr
  | .rol => onTarget rol
  | .ror => onTarget ror
  | .sta => onMemory sta
  | .stx => onMemory stx
  | .sty => onMemory sty
  | .inc => onMemory inc
  | .dec => onMemory dec
  | .jmp => onMemory jump
  | .jsr => onAbsolute jsr
  | .inx => onNothing inx
  | .dex => onNothing dex
  | .iny => onNothing iny
  | .dey => onNothing dey
  | .pha => onNothing pha
  | .pla => onNothing pla
  | .php => onNothing php
  | .plp => onNothing plp
  | .rts => onNothing rts
  | .brk => onNothing State.takeBreak
  | .rti => onNothing State.returnFromInterrupt
  | .tax => onNothing tax
  | .tay => onNothing tay
  | .txa => onNothing txa
  | .tya => onNothing tya
  | .tsx => onNothing tsx
  | .txs => onNothing txs
  | .sec => onNothing sec
  | .clc => onNothing clc
  | .sei => onNothing sei
  | .cli => onNothing cli
  | .sed => onNothing sed
  | .cld => onNothing cld
  | .clv => onNothing clv
  | .nop => onNothing id
  | .bcc => onOffset (fun f => !f.c)
  | .bcs => onOffset (fun f => f.c)
  | .beq => onOffset (fun f => f.z)
  | .bne => onOffset (fun f => !f.z)
  | .bmi => onOffset (fun f => f.n)
  | .bpl => onOffset (fun f => !f.n)
  | .bvc => onOffset (fun f => !f.v)
  | .bvs => onOffset (fun f => f.v)

/-- Every instruction has the effect of its mnemonic in its mode, and exec runs that effect. -/
theorem exec_effect (i : Instr) : ∃ e, effectOf i.mnemonic i.mode = some e ∧ ∀ s, exec i s = e.result i s := by
  cases i <;> exact ⟨_, rfl, fun _ => rfl⟩

/-- An instruction whose mnemonic reads a source operand: its mode is that source, and it runs that effect. -/
theorem exec_of_source {i : Instr} {f : Source → State → State} (h : effectOf i.mnemonic = onSource f) :
    ∃ src : Source, i.mode = src.mode ∧ ∀ s, exec i s = run i (f src) s := by
  obtain ⟨e, he, hx⟩ := exec_effect i
  rw [h] at he
  cases hm : i.mode <;> rw [hm] at he <;> cases he
  · exact ⟨.imm _, rfl, hx⟩
  · exact ⟨.mem _, rfl, hx⟩

/-- The same for an instruction on `A` or on a memory byte. -/
theorem exec_of_target {i : Instr} {f : Target → State → State} (h : effectOf i.mnemonic = onTarget f) :
    ∃ tg : Target, i.mode = tg.mode ∧ ∀ s, exec i s = run i (f tg) s := by
  obtain ⟨e, he, hx⟩ := exec_effect i
  rw [h] at he
  cases hm : i.mode <;> rw [hm] at he <;> cases he
  · exact ⟨.acc, rfl, hx⟩
  · exact ⟨.mem _, rfl, hx⟩

/-- The same for an instruction on an effective address. -/
theorem exec_of_memory {i : Instr} {f : MemMode → State → State} (h : effectOf i.mnemonic = onMemory f) :
    ∃ m : MemMode, i.mode = .mem m ∧ ∀ s, exec i s = run i (f m) s := by
  obtain ⟨e, he, hx⟩ := exec_effect i
  rw [h] at he
  cases hm : i.mode <;> rw [hm] at he <;> cases he
  exact ⟨_, rfl, hx⟩

/-- The same for a one-byte instruction without operand. -/
theorem exec_of_nothing {i : Instr} {f : State → State} (h : effectOf i.mnemonic = onNothing f) :
    i.mode = .imp ∧ ∀ s, exec i s = run i f s := by
  obtain ⟨e, he, hx⟩ := exec_effect i
  rw [h] at he
  cases hm : i.mode <;> rw [hm] at he <;> cases he
  exact ⟨rfl, hx⟩

/-- The same for a branch. -/
theorem exec_of_offset {i : Instr} {cond : Flags → Bool} (h : effectOf i.mnemonic = onOffset cond) :
    ∃ off, i.mode = .rel off ∧ ∀ s, exec i s = branch i off cond s := by
  obtain ⟨e, he, hx⟩ := exec_effect i
  rw [h] at he
  cases hm : i.mode <;> rw [hm] at he <;> cases he
  exact ⟨_, rfl, hx⟩

/-- ADC ends in the one operation that stores an adder's result, in either mode. -/
theorem adc_accumulates (src : Source) (s : State) : ∃ out n, adc src s = accumulate out n s := by
  unfold adc
  dsimp only
  split <;> exact ⟨_, _, rfl⟩

/-- So does SBC. -/
theorem sbc_accumulates (src : Source) (s : State) : ∃ out n, sbc src s = accumulate out n s := by
  unfold sbc
  dsimp only
  split <;> exact ⟨_, _, rfl⟩

/-- What a branch can do: `PC` moves, a count is reported. -/
theorem branch_next {i : Instr} {off : Byte} {cond : Flags → Bool} {s t : State} (h : branch i off cond s = .next t) :
    ∃ pc k, t = ((enter i s).setPc pc).setCycles k := by
  cases hc : cond s.flags
  · rw [branch_not_taken _ _ hc] at h
    cases h
    exact ⟨(enter i s).pc, _, rfl⟩
  · rw [branch_taken _ _ hc] at h
    cases h
    exact ⟨_, _, rfl⟩

/-- Where the window at `PC` holds an instruction, a step is exec of it. -/
theorem step_of_fetch {s : State} {i : Instr} (h : fetch s = some i) : step s = exec i s := by
  rw [step, h]

/-- Where it holds none, a step faults. -/
theorem step_of_no_fetch {s : State} (h : fetch s = none) :
    step s = .fault (.invalidOpcode (s.read s.pc) s.afterInvalidOpcode) := by
  rw [step, h]
  rfl

end Sys2Proof.Machine
end

