-- ==== Sys2Proof/Laws/Flags.lean ====
section
/-! SUPPORT. What the flag computations say, field by field. -/

namespace Sys2Proof.Machine

@[simp] theorem Flags.setNZ_n (v : Byte) (f : Flags) : (f.setNZ v).n = v.getLsbD 7 := rfl
@[simp] theorem Flags.setNZ_z (v : Byte) (f : Flags) : (f.setNZ v).z = (v == 0#8) := rfl
@[simp] theorem Flags.setNZ_c (v : Byte) (f : Flags) : (f.setNZ v).c = f.c := rfl
@[simp] theorem Flags.setNZ_i (v : Byte) (f : Flags) : (f.setNZ v).i = f.i := rfl
@[simp] theorem Flags.setNZ_d (v : Byte) (f : Flags) : (f.setNZ v).d = f.d := rfl
@[simp] theorem Flags.setNZ_b (v : Byte) (f : Flags) : (f.setNZ v).b = f.b := rfl
@[simp] theorem Flags.setNZ_v (v : Byte) (f : Flags) : (f.setNZ v).v = f.v := rfl

@[simp] theorem unpack_c (p : Byte) : (unpack p).c = p.getLsbD 0 := rfl
@[simp] theorem unpack_z (p : Byte) : (unpack p).z = p.getLsbD 1 := rfl
@[simp] theorem unpack_i (p : Byte) : (unpack p).i = p.getLsbD 2 := rfl
@[simp] theorem unpack_d (p : Byte) : (unpack p).d = p.getLsbD 3 := rfl
@[simp] theorem unpack_b (p : Byte) : (unpack p).b = p.getLsbD 4 := rfl
@[simp] theorem unpack_v (p : Byte) : (unpack p).v = p.getLsbD 6 := rfl
@[simp] theorem unpack_n (p : Byte) : (unpack p).n = p.getLsbD 7 := rfl

/-- The exact sum of two bytes and a carry fits in nine bits. -/
theorem sum_le (a m : Byte) (c : Bool) : a.toNat + m.toNat + c.toNat ≤ 511 := by
  have := a.isLt
  have := m.isLt
  cases c <;> simp <;> omega

/-- The value an addition stores, as a number. -/
theorem addBinary_value_toNat (a m : Byte) (c : Bool) :
    (addBinary a m c).value.toNat = (a.toNat + m.toNat + c.toNat) % 256 := by
  simp [addBinary]

/-- The carry out of an addition. -/
theorem addBinary_carry (a m : Byte) (c : Bool) :
    (addBinary a m c).carry = decide (a.toNat + m.toNat + c.toNat > 255) := rfl

/-- The parameter SBC_V_RULE at the value R101 states: a subtraction is ADC's adder on the one's complement. -/
theorem subBinary_eq (a m : Byte) (c : Bool) : subBinary a m c = addBinary a (m ^^^ 0xFF#8) c := rfl

/-- The parameter DECIMAL_FLAGS at the value R100 states: `N` comes from the stored result. -/
@[simp] theorem decimalNSource_eq (stored binary : Byte) : decimalNSource stored binary = stored := rfl

/-- A packed number of at most two digits has its tens above its units. -/
theorem bcdpack_toNat {n : Nat} (h : n < 100) : (bcdpack n).toNat = n / 10 * 16 + n % 10 := by
  simp only [bcdpack, BitVec.toNat_ofNat]
  omega

end Sys2Proof.Machine
end

