-- ==== Sys2Proof/Laws/Memory.lean ====
section
/-! SUPPORT. The laws of memory: every operation keeps the canonical form, a read after a write, and that equal
memories are equal data. -/

namespace Sys2Proof.Machine

/-- A canonical memory that starts at or above `lo` lists nothing below `lo`. -/
theorem Memory.read_below {m : Memory} {lo : Nat} (h : Memory.wfFrom lo m = true) {a : Word} (ha : a.toNat < lo) :
    m.read a = Config.unlistedByte := by
  induction m generalizing lo with
  | nil => rfl
  | cons c m ih =>
    obtain ⟨k, v⟩ := c
    simp only [Memory.wfFrom, Bool.and_eq_true, decide_eq_true_eq] at h
    have hk : k ≠ a.toNat := by omega
    simp only [Memory.read, hk, if_false]
    exact ih h.2 (by omega)

/-- A canonical memory that starts at `lo` also starts at anything below. -/
theorem Memory.wfFrom_mono {m : Memory} {lo lo' : Nat} (h : Memory.wfFrom lo m = true) (hle : lo' ≤ lo) :
    Memory.wfFrom lo' m = true := by
  cases m with
  | nil => rfl
  | cons c m =>
    obtain ⟨k, v⟩ := c
    simp only [Memory.wfFrom, Bool.and_eq_true, decide_eq_true_eq] at h ⊢
    exact ⟨⟨⟨by omega, h.1.1.2⟩, h.1.2⟩, h.2⟩

/-- Putting a cell in front of a canonical memory that starts above it. -/
theorem Memory.put_wfFrom {m : Memory} {lo k : Nat} {v : Byte} (h : Memory.wfFrom (k + 1) m = true) (hlo : lo ≤ k)
    (hk : k < 65536) : Memory.wfFrom lo (Memory.put k v m) = true := by
  unfold Memory.put
  split
  · exact Memory.wfFrom_mono h (by omega)
  · simp [Memory.wfFrom, *]

/-- A write keeps the canonical form. -/
theorem Memory.write_wfFrom {m : Memory} {lo : Nat} {a : Word} {v : Byte} (h : Memory.wfFrom lo m = true)
    (ha : lo ≤ a.toNat) : Memory.wfFrom lo (m.write a v) = true := by
  have hlt : a.toNat < 65536 := a.isLt
  induction m generalizing lo with
  | nil => exact Memory.put_wfFrom rfl ha hlt
  | cons c m ih =>
    obtain ⟨k, w⟩ := c
    have h' := h
    simp only [Memory.wfFrom, Bool.and_eq_true, decide_eq_true_eq] at h
    obtain ⟨⟨⟨hlo, hk⟩, hw⟩, hm⟩ := h
    simp only [Memory.write]
    split
    · have := ih hm (by omega)
      simp [Memory.wfFrom, hlo, hk, hw, this]
    · split
      · exact Memory.put_wfFrom hm hlo hk
      · refine Memory.put_wfFrom ?_ ha hlt
        simp only [Memory.wfFrom, Bool.and_eq_true, decide_eq_true_eq]
        exact ⟨⟨⟨by omega, hk⟩, hw⟩, hm⟩

/-- Every write keeps memory canonical. -/
theorem Memory.write_wf {m : Memory} (h : m.wf = true) (a : Word) (v : Byte) : (m.write a v).wf = true :=
  Memory.write_wfFrom h (Nat.zero_le _)

/-- Reading where a cell was just put in front of a memory that starts above it. -/
theorem Memory.read_put {m : Memory} {k : Nat} {v : Byte} (h : Memory.wfFrom (k + 1) m = true) (b : Word) :
    (Memory.put k v m).read b = if k = b.toNat then v else m.read b := by
  unfold Memory.put
  split
  · split
    · rw [Memory.read_below h (by omega)]; exact (by assumption : v = _).symm
    · rfl
  · rfl

/-- A read after a write: the value written at that address, and what was there at every other. -/
theorem Memory.read_write_from {m : Memory} {lo : Nat} (h : Memory.wfFrom lo m = true) (a b : Word) (v : Byte) :
    (m.write a v).read b = if b = a then v else m.read b := by
  have hab : (a.toNat = b.toNat) ↔ b = a := ⟨fun e => BitVec.eq_of_toNat_eq e.symm, fun e => by rw [e]⟩
  induction m generalizing lo with
  | nil =>
    rw [Memory.write, Memory.read_put rfl]
    simp only [hab, Memory.read]
  | cons c m ih =>
    obtain ⟨k, w⟩ := c
    simp only [Memory.wfFrom, Bool.and_eq_true, decide_eq_true_eq] at h
    obtain ⟨⟨⟨hlo, hk⟩, hw⟩, hm⟩ := h
    simp only [Memory.write]
    split
    · rename_i hka
      simp only [Memory.read, ih hm]
      by_cases hb : k = b.toNat
      · have : b ≠ a := fun e => by rw [e] at hb; omega
        simp [hb, this]
      · simp [hb]
    · split
      · rename_i _ hka
        rw [Memory.read_put hm]
        simp only [hka, hab, Memory.read]
        split <;> rfl
      · rename_i h1 h2
        rw [Memory.read_put]
        · simp only [hab]
        · simp only [Memory.wfFrom, Bool.and_eq_true, decide_eq_true_eq]
          exact ⟨⟨⟨by omega, hk⟩, hw⟩, hm⟩

/-- A read after a write, on canonical memory (R31, R38). -/
theorem Memory.read_write {m : Memory} (h : m.wf = true) (a b : Word) (v : Byte) :
    (m.write a v).read b = if b = a then v else m.read b := Memory.read_write_from h a b v

/-- The same law on the state. -/
theorem State.read_write {s : State} (h : s.mem.wf = true) (a b : Word) (v : Byte) :
    (s.write a v).read b = if b = a then v else s.read b := Memory.read_write h a b v

/-- Two canonical memories that read alike at every address are the same data. -/
theorem Memory.ext_from {m m' : Memory} {lo : Nat} (h : Memory.wfFrom lo m = true) (h' : Memory.wfFrom lo m' = true)
    (hr : ∀ a : Word, m.read a = m'.read a) : m = m' := by
  induction m generalizing lo m' with
  | nil =>
    cases m' with
    | nil => rfl
    | cons c m' =>
      obtain ⟨k, v⟩ := c
      simp only [Memory.wfFrom, Bool.and_eq_true, decide_eq_true_eq] at h'
      have := hr (BitVec.ofNat 16 k)
      simp only [Memory.read, BitVec.toNat_ofNat, Nat.mod_eq_of_lt h'.1.1.2, if_true] at this
      exact absurd this.symm h'.1.2
  | cons c m ih =>
    obtain ⟨k, v⟩ := c
    have hc := h
    simp only [Memory.wfFrom, Bool.and_eq_true, decide_eq_true_eq] at h
    have hk := hr (BitVec.ofNat 16 k)
    simp only [Memory.read, BitVec.toNat_ofNat, Nat.mod_eq_of_lt h.1.1.2, if_true] at hk
    cases m' with
    | nil => exact absurd hk h.1.2
    | cons c' m' =>
      obtain ⟨k', v'⟩ := c'
      have hc' := h'
      simp only [Memory.wfFrom, Bool.and_eq_true, decide_eq_true_eq] at h'
      have hk' := hr (BitVec.ofNat 16 k')
      have t1 : (BitVec.ofNat 16 k).toNat = k := by simp; omega
      have t2 : (BitVec.ofNat 16 k').toNat = k' := by simp; omega
      have e : k = k' := by
        rcases Nat.lt_trichotomy k k' with hl | he | hl
        · exfalso
          simp only [Memory.read] at hk
          rw [if_neg (by omega), Memory.read_below h'.2 (by omega)] at hk
          exact h.1.2 hk
        · exact he
        · exfalso
          simp only [Memory.read, t2] at hk'
          rw [if_neg (by omega), if_true, Memory.read_below h.2 (by omega)] at hk'
          exact h'.1.2 hk'.symm
      subst e
      have ev : v = v' := by simpa [Memory.read, t1, Nat.mod_eq_of_lt h.1.1.2] using hk
      subst ev
      refine congrArg _ (ih h.2 h'.2 fun a => ?_)
      by_cases ha : k = a.toNat
      · rw [Memory.read_below h.2 (by omega), Memory.read_below h'.2 (by omega)]
      · simpa [Memory.read, ha] using hr a

/-- Equal memories are equal data (the point of the canonical form). -/
theorem Memory.eq_of_read_eq {m m' : Memory} (h : m.wf = true) (h' : m'.wf = true)
    (hr : ∀ a : Word, m.read a = m'.read a) : m = m' := Memory.ext_from h h' hr

/-! ### The operations at the parameters' values -/

/-- ADDRESS_POLICY reduces a sum mod 65536 (R32): it is the sum of the two words. -/
theorem addAddress_eq (a b : Word) : addAddress a b = a + b := rfl

/-- A computed address as a number: the exact sum, reduced mod 65536 (R32). -/
theorem addAddress_toNat (a b : Word) : (addAddress a b).toNat = (a.toNat + b.toNat) % 65536 := rfl

/-- `Read16` in the bytes it reads (R35). -/
theorem State.read16_eq (s : State) (a : Word) : s.read16 a = pair (s.read (a + 1)) (s.read a) := rfl

/-- A pointer fetch wraps in no page (R35; PTR_WRAP): it is `Read16`. -/
theorem State.readPointer_eq (s : State) (p : Word) : s.readPointer p = s.read16 p := rfl

/-- A push writes before it decrements `SP` (R155; STACK_DISCIPLINE). -/
theorem State.push_eq (s : State) (v : Byte) : s.push v = (s.write (stackAddress s.sp) v).setSp (s.sp - 1) := rfl

/-- A pull increments `SP` before it reads (R156; STACK_DISCIPLINE). -/
theorem State.pull_eq (s : State) : s.pull = s.read (stackAddress (s.sp + 1)) := rfl

/-- The high byte is pushed first (R161, R163; STACK_DISCIPLINE). -/
theorem State.pushWord_eq (s : State) (w : Word) : s.pushWord w = (s.push (hiByte w)).push (loByte w) := rfl

/-- The low byte is pulled first (R162, R164; STACK_DISCIPLINE). -/
theorem State.pullWord_eq (s : State) : s.pullWord = pair s.pulled.pull s.pull := rfl

/-- An unassigned opcode byte is reported (R201; INVALID_OPCODE_POLICY). -/
theorem State.invalidOpcode_eq (s : State) (op : Byte) :
    s.invalidOpcode op = .fault (.invalidOpcode op s.afterInvalidOpcode) := rfl

/-- A push writes one byte, on the stack page, and keeps memory canonical. -/
theorem State.push_read {s : State} (h : s.mem.wf = true) (v : Byte) (b : Word) :
    (s.push v).read b = if b = stackAddress s.sp then v else s.read b := Memory.read_write h _ _ _

/-- The host's load keeps memory canonical. -/
theorem State.place_wf {s : State} (h : s.mem.wf = true) (a : Word) (bs : List Byte) :
    (s.place a bs).mem.wf = true := by
  induction bs generalizing s a with
  | nil => exact h
  | cons b bs ih => exact ih (Memory.write_wf h a b) _

end Sys2Proof.Machine
end

