-- ==== Sys2Proof/Laws/PerInstr.lean ====
section
/-! SUPPORT. The per-instruction family `Encoding`: what the encoder and the decoder's table say of one instruction,
held against each other (spec/30_encoding.md R50 to R54). -/

namespace Sys2Proof.Laws.Encoding

/-- An instruction is as long as its format says, its first byte is its opcode, and the decoder's table has for that
opcode the form that makes this instruction, where it is well-formed, of its own operand bytes. -/
def Statement (i : Instr) : Prop :=
  (encode i).length = i.length ∧ (encode i).head? = some i.opcode ∧
    (WellFormed i = true →
      (i.mode.bytes = [] ∧ Config.opcodeMap.lookup i.opcode = some (.bare i)) ∨
      (∃ g b, i.mode.bytes = [b] ∧ Config.opcodeMap.lookup i.opcode = some (.byte g) ∧ g b = i) ∨
      ∃ g a, i.mode.bytes = [loByte a, hiByte a] ∧ Config.opcodeMap.lookup i.opcode = some (.word g) ∧ g a = i)

theorem adcImm (v : Byte) : Statement (.adcImm v) :=
  ⟨rfl, rfl, fun _ => .inr (.inl ⟨.adcImm, v, rfl, rfl, rfl⟩)⟩
theorem adcZp (z : Byte) : Statement (.adcZp z) :=
  ⟨rfl, rfl, fun _ => .inr (.inl ⟨.adcZp, z, rfl, rfl, rfl⟩)⟩
theorem adcZpx (z : Byte) : Statement (.adcZpx z) :=
  ⟨rfl, rfl, fun _ => .inr (.inl ⟨.adcZpx, z, rfl, rfl, rfl⟩)⟩
theorem adcAbs (addr : Word) : Statement (.adcAbs addr) :=
  ⟨rfl, rfl, fun _ => .inr (.inr ⟨.adcAbs, addr, rfl, rfl, rfl⟩)⟩
theorem adcAbx (addr : Word) : Statement (.adcAbx addr) :=
  ⟨rfl, rfl, fun _ => .inr (.inr ⟨.adcAbx, addr, rfl, rfl, rfl⟩)⟩
theorem adcAby (addr : Word) : Statement (.adcAby addr) :=
  ⟨rfl, rfl, fun _ => .inr (.inr ⟨.adcAby, addr, rfl, rfl, rfl⟩)⟩
theorem adcIzx (ptr : Byte) : Statement (.adcIzx ptr) :=
  ⟨rfl, rfl, fun _ => .inr (.inl ⟨.adcIzx, ptr, rfl, rfl, rfl⟩)⟩
theorem adcIzy (ptr : Byte) : Statement (.adcIzy ptr) :=
  ⟨rfl, rfl, fun _ => .inr (.inl ⟨.adcIzy, ptr, rfl, rfl, rfl⟩)⟩
theorem sbcImm (v : Byte) : Statement (.sbcImm v) :=
  ⟨rfl, rfl, fun _ => .inr (.inl ⟨.sbcImm, v, rfl, rfl, rfl⟩)⟩
theorem sbcZp (z : Byte) : Statement (.sbcZp z) :=
  ⟨rfl, rfl, fun _ => .inr (.inl ⟨.sbcZp, z, rfl, rfl, rfl⟩)⟩
theorem sbcZpx (z : Byte) : Statement (.sbcZpx z) :=
  ⟨rfl, rfl, fun _ => .inr (.inl ⟨.sbcZpx, z, rfl, rfl, rfl⟩)⟩
theorem sbcAbs (addr : Word) : Statement (.sbcAbs addr) :=
  ⟨rfl, rfl, fun _ => .inr (.inr ⟨.sbcAbs, addr, rfl, rfl, rfl⟩)⟩
theorem sbcAbx (addr : Word) : Statement (.sbcAbx addr) :=
  ⟨rfl, rfl, fun _ => .inr (.inr ⟨.sbcAbx, addr, rfl, rfl, rfl⟩)⟩
theorem sbcAby (addr : Word) : Statement (.sbcAby addr) :=
  ⟨rfl, rfl, fun _ => .inr (.inr ⟨.sbcAby, addr, rfl, rfl, rfl⟩)⟩
theorem sbcIzx (ptr : Byte) : Statement (.sbcIzx ptr) :=
  ⟨rfl, rfl, fun _ => .inr (.inl ⟨.sbcIzx, ptr, rfl, rfl, rfl⟩)⟩
theorem sbcIzy (ptr : Byte) : Statement (.sbcIzy ptr) :=
  ⟨rfl, rfl, fun _ => .inr (.inl ⟨.sbcIzy, ptr, rfl, rfl, rfl⟩)⟩
theorem andImm (v : Byte) : Statement (.andImm v) :=
  ⟨rfl, rfl, fun _ => .inr (.inl ⟨.andImm, v, rfl, rfl, rfl⟩)⟩
theorem andZp (z : Byte) : Statement (.andZp z) :=
  ⟨rfl, rfl, fun _ => .inr (.inl ⟨.andZp, z, rfl, rfl, rfl⟩)⟩
theorem andZpx (z : Byte) : Statement (.andZpx z) :=
  ⟨rfl, rfl, fun _ => .inr (.inl ⟨.andZpx, z, rfl, rfl, rfl⟩)⟩
theorem andAbs (addr : Word) : Statement (.andAbs addr) :=
  ⟨rfl, rfl, fun _ => .inr (.inr ⟨.andAbs, addr, rfl, rfl, rfl⟩)⟩
theorem andAbx (addr : Word) : Statement (.andAbx addr) :=
  ⟨rfl, rfl, fun _ => .inr (.inr ⟨.andAbx, addr, rfl, rfl, rfl⟩)⟩
theorem andAby (addr : Word) : Statement (.andAby addr) :=
  ⟨rfl, rfl, fun _ => .inr (.inr ⟨.andAby, addr, rfl, rfl, rfl⟩)⟩
theorem andIzx (ptr : Byte) : Statement (.andIzx ptr) :=
  ⟨rfl, rfl, fun _ => .inr (.inl ⟨.andIzx, ptr, rfl, rfl, rfl⟩)⟩
theorem andIzy (ptr : Byte) : Statement (.andIzy ptr) :=
  ⟨rfl, rfl, fun _ => .inr (.inl ⟨.andIzy, ptr, rfl, rfl, rfl⟩)⟩
theorem oraImm (v : Byte) : Statement (.oraImm v) :=
  ⟨rfl, rfl, fun _ => .inr (.inl ⟨.oraImm, v, rfl, rfl, rfl⟩)⟩
theorem oraZp (z : Byte) : Statement (.oraZp z) :=
  ⟨rfl, rfl, fun _ => .inr (.inl ⟨.oraZp, z, rfl, rfl, rfl⟩)⟩
theorem oraZpx (z : Byte) : Statement (.oraZpx z) :=
  ⟨rfl, rfl, fun _ => .inr (.inl ⟨.oraZpx, z, rfl, rfl, rfl⟩)⟩
theorem oraAbs (addr : Word) : Statement (.oraAbs addr) :=
  ⟨rfl, rfl, fun _ => .inr (.inr ⟨.oraAbs, addr, rfl, rfl, rfl⟩)⟩
theorem oraAbx (addr : Word) : Statement (.oraAbx addr) :=
  ⟨rfl, rfl, fun _ => .inr (.inr ⟨.oraAbx, addr, rfl, rfl, rfl⟩)⟩
theorem oraAby (addr : Word) : Statement (.oraAby addr) :=
  ⟨rfl, rfl, fun _ => .inr (.inr ⟨.oraAby, addr, rfl, rfl, rfl⟩)⟩
theorem oraIzx (ptr : Byte) : Statement (.oraIzx ptr) :=
  ⟨rfl, rfl, fun _ => .inr (.inl ⟨.oraIzx, ptr, rfl, rfl, rfl⟩)⟩
theorem oraIzy (ptr : Byte) : Statement (.oraIzy ptr) :=
  ⟨rfl, rfl, fun _ => .inr (.inl ⟨.oraIzy, ptr, rfl, rfl, rfl⟩)⟩
theorem eorImm (v : Byte) : Statement (.eorImm v) :=
  ⟨rfl, rfl, fun _ => .inr (.inl ⟨.eorImm, v, rfl, rfl, rfl⟩)⟩
theorem eorZp (z : Byte) : Statement (.eorZp z) :=
  ⟨rfl, rfl, fun _ => .inr (.inl ⟨.eorZp, z, rfl, rfl, rfl⟩)⟩
theorem eorZpx (z : Byte) : Statement (.eorZpx z) :=
  ⟨rfl, rfl, fun _ => .inr (.inl ⟨.eorZpx, z, rfl, rfl, rfl⟩)⟩
theorem eorAbs (addr : Word) : Statement (.eorAbs addr) :=
  ⟨rfl, rfl, fun _ => .inr (.inr ⟨.eorAbs, addr, rfl, rfl, rfl⟩)⟩
theorem eorAbx (addr : Word) : Statement (.eorAbx addr) :=
  ⟨rfl, rfl, fun _ => .inr (.inr ⟨.eorAbx, addr, rfl, rfl, rfl⟩)⟩
theorem eorAby (addr : Word) : Statement (.eorAby addr) :=
  ⟨rfl, rfl, fun _ => .inr (.inr ⟨.eorAby, addr, rfl, rfl, rfl⟩)⟩
theorem eorIzx (ptr : Byte) : Statement (.eorIzx ptr) :=
  ⟨rfl, rfl, fun _ => .inr (.inl ⟨.eorIzx, ptr, rfl, rfl, rfl⟩)⟩
theorem eorIzy (ptr : Byte) : Statement (.eorIzy ptr) :=
  ⟨rfl, rfl, fun _ => .inr (.inl ⟨.eorIzy, ptr, rfl, rfl, rfl⟩)⟩
theorem aslAcc : Statement .aslAcc := ⟨rfl, rfl, fun _ => .inl ⟨rfl, rfl⟩⟩
theorem aslZp (z : Byte) : Statement (.aslZp z) :=
  ⟨rfl, rfl, fun _ => .inr (.inl ⟨.aslZp, z, rfl, rfl, rfl⟩)⟩
theorem aslZpx (z : Byte) : Statement (.aslZpx z) :=
  ⟨rfl, rfl, fun _ => .inr (.inl ⟨.aslZpx, z, rfl, rfl, rfl⟩)⟩
theorem aslAbs (addr : Word) : Statement (.aslAbs addr) :=
  ⟨rfl, rfl, fun _ => .inr (.inr ⟨.aslAbs, addr, rfl, rfl, rfl⟩)⟩
theorem aslAbx (addr : Word) : Statement (.aslAbx addr) :=
  ⟨rfl, rfl, fun _ => .inr (.inr ⟨.aslAbx, addr, rfl, rfl, rfl⟩)⟩
theorem lsrAcc : Statement .lsrAcc := ⟨rfl, rfl, fun _ => .inl ⟨rfl, rfl⟩⟩
theorem lsrZp (z : Byte) : Statement (.lsrZp z) :=
  ⟨rfl, rfl, fun _ => .inr (.inl ⟨.lsrZp, z, rfl, rfl, rfl⟩)⟩
theorem lsrZpx (z : Byte) : Statement (.lsrZpx z) :=
  ⟨rfl, rfl, fun _ => .inr (.inl ⟨.lsrZpx, z, rfl, rfl, rfl⟩)⟩
theorem lsrAbs (addr : Word) : Statement (.lsrAbs addr) :=
  ⟨rfl, rfl, fun _ => .inr (.inr ⟨.lsrAbs, addr, rfl, rfl, rfl⟩)⟩
theorem lsrAbx (addr : Word) : Statement (.lsrAbx addr) :=
  ⟨rfl, rfl, fun _ => .inr (.inr ⟨.lsrAbx, addr, rfl, rfl, rfl⟩)⟩
theorem rolAcc : Statement .rolAcc := ⟨rfl, rfl, fun _ => .inl ⟨rfl, rfl⟩⟩
theorem rolZp (z : Byte) : Statement (.rolZp z) :=
  ⟨rfl, rfl, fun _ => .inr (.inl ⟨.rolZp, z, rfl, rfl, rfl⟩)⟩
theorem rolZpx (z : Byte) : Statement (.rolZpx z) :=
  ⟨rfl, rfl, fun _ => .inr (.inl ⟨.rolZpx, z, rfl, rfl, rfl⟩)⟩
theorem rolAbs (addr : Word) : Statement (.rolAbs addr) :=
  ⟨rfl, rfl, fun _ => .inr (.inr ⟨.rolAbs, addr, rfl, rfl, rfl⟩)⟩
theorem rolAbx (addr : Word) : Statement (.rolAbx addr) :=
  ⟨rfl, rfl, fun _ => .inr (.inr ⟨.rolAbx, addr, rfl, rfl, rfl⟩)⟩
theorem rorAcc : Statement .rorAcc := ⟨rfl, rfl, fun _ => .inl ⟨rfl, rfl⟩⟩
theorem rorZp (z : Byte) : Statement (.rorZp z) :=
  ⟨rfl, rfl, fun _ => .inr (.inl ⟨.rorZp, z, rfl, rfl, rfl⟩)⟩
theorem rorZpx (z : Byte) : Statement (.rorZpx z) :=
  ⟨rfl, rfl, fun _ => .inr (.inl ⟨.rorZpx, z, rfl, rfl, rfl⟩)⟩
theorem rorAbs (addr : Word) : Statement (.rorAbs addr) :=
  ⟨rfl, rfl, fun _ => .inr (.inr ⟨.rorAbs, addr, rfl, rfl, rfl⟩)⟩
theorem rorAbx (addr : Word) : Statement (.rorAbx addr) :=
  ⟨rfl, rfl, fun _ => .inr (.inr ⟨.rorAbx, addr, rfl, rfl, rfl⟩)⟩
theorem bitZp (z : Byte) : Statement (.bitZp z) :=
  ⟨rfl, rfl, fun _ => .inr (.inl ⟨.bitZp, z, rfl, rfl, rfl⟩)⟩
theorem bitAbs (addr : Word) : Statement (.bitAbs addr) :=
  ⟨rfl, rfl, fun _ => .inr (.inr ⟨.bitAbs, addr, rfl, rfl, rfl⟩)⟩
theorem cmpImm (v : Byte) : Statement (.cmpImm v) :=
  ⟨rfl, rfl, fun _ => .inr (.inl ⟨.cmpImm, v, rfl, rfl, rfl⟩)⟩
theorem cmpZp (z : Byte) : Statement (.cmpZp z) :=
  ⟨rfl, rfl, fun _ => .inr (.inl ⟨.cmpZp, z, rfl, rfl, rfl⟩)⟩
theorem cmpZpx (z : Byte) : Statement (.cmpZpx z) :=
  ⟨rfl, rfl, fun _ => .inr (.inl ⟨.cmpZpx, z, rfl, rfl, rfl⟩)⟩
theorem cmpAbs (addr : Word) : Statement (.cmpAbs addr) :=
  ⟨rfl, rfl, fun _ => .inr (.inr ⟨.cmpAbs, addr, rfl, rfl, rfl⟩)⟩
theorem cmpAbx (addr : Word) : Statement (.cmpAbx addr) :=
  ⟨rfl, rfl, fun _ => .inr (.inr ⟨.cmpAbx, addr, rfl, rfl, rfl⟩)⟩
theorem cmpAby (addr : Word) : Statement (.cmpAby addr) :=
  ⟨rfl, rfl, fun _ => .inr (.inr ⟨.cmpAby, addr, rfl, rfl, rfl⟩)⟩
theorem cmpIzx (ptr : Byte) : Statement (.cmpIzx ptr) :=
  ⟨rfl, rfl, fun _ => .inr (.inl ⟨.cmpIzx, ptr, rfl, rfl, rfl⟩)⟩
theorem cmpIzy (ptr : Byte) : Statement (.cmpIzy ptr) :=
  ⟨rfl, rfl, fun _ => .inr (.inl ⟨.cmpIzy, ptr, rfl, rfl, rfl⟩)⟩
theorem cpxImm (v : Byte) : Statement (.cpxImm v) :=
  ⟨rfl, rfl, fun _ => .inr (.inl ⟨.cpxImm, v, rfl, rfl, rfl⟩)⟩
theorem cpxZp (z : Byte) : Statement (.cpxZp z) :=
  ⟨rfl, rfl, fun _ => .inr (.inl ⟨.cpxZp, z, rfl, rfl, rfl⟩)⟩
theorem cpxAbs (addr : Word) : Statement (.cpxAbs addr) :=
  ⟨rfl, rfl, fun _ => .inr (.inr ⟨.cpxAbs, addr, rfl, rfl, rfl⟩)⟩
theorem cpyImm (v : Byte) : Statement (.cpyImm v) :=
  ⟨rfl, rfl, fun _ => .inr (.inl ⟨.cpyImm, v, rfl, rfl, rfl⟩)⟩
theorem cpyZp (z : Byte) : Statement (.cpyZp z) :=
  ⟨rfl, rfl, fun _ => .inr (.inl ⟨.cpyZp, z, rfl, rfl, rfl⟩)⟩
theorem cpyAbs (addr : Word) : Statement (.cpyAbs addr) :=
  ⟨rfl, rfl, fun _ => .inr (.inr ⟨.cpyAbs, addr, rfl, rfl, rfl⟩)⟩
theorem incZp (z : Byte) : Statement (.incZp z) :=
  ⟨rfl, rfl, fun _ => .inr (.inl ⟨.incZp, z, rfl, rfl, rfl⟩)⟩
theorem incZpx (z : Byte) : Statement (.incZpx z) :=
  ⟨rfl, rfl, fun _ => .inr (.inl ⟨.incZpx, z, rfl, rfl, rfl⟩)⟩
theorem incAbs (addr : Word) : Statement (.incAbs addr) :=
  ⟨rfl, rfl, fun _ => .inr (.inr ⟨.incAbs, addr, rfl, rfl, rfl⟩)⟩
theorem incAbx (addr : Word) : Statement (.incAbx addr) :=
  ⟨rfl, rfl, fun _ => .inr (.inr ⟨.incAbx, addr, rfl, rfl, rfl⟩)⟩
theorem decZp (z : Byte) : Statement (.decZp z) :=
  ⟨rfl, rfl, fun _ => .inr (.inl ⟨.decZp, z, rfl, rfl, rfl⟩)⟩
theorem decZpx (z : Byte) : Statement (.decZpx z) :=
  ⟨rfl, rfl, fun _ => .inr (.inl ⟨.decZpx, z, rfl, rfl, rfl⟩)⟩
theorem decAbs (addr : Word) : Statement (.decAbs addr) :=
  ⟨rfl, rfl, fun _ => .inr (.inr ⟨.decAbs, addr, rfl, rfl, rfl⟩)⟩
theorem decAbx (addr : Word) : Statement (.decAbx addr) :=
  ⟨rfl, rfl, fun _ => .inr (.inr ⟨.decAbx, addr, rfl, rfl, rfl⟩)⟩
theorem inx : Statement .inx := ⟨rfl, rfl, fun _ => .inl ⟨rfl, rfl⟩⟩
theorem dex : Statement .dex := ⟨rfl, rfl, fun _ => .inl ⟨rfl, rfl⟩⟩
theorem iny : Statement .iny := ⟨rfl, rfl, fun _ => .inl ⟨rfl, rfl⟩⟩
theorem dey : Statement .dey := ⟨rfl, rfl, fun _ => .inl ⟨rfl, rfl⟩⟩
theorem bcc (off : Byte) : Statement (.bcc off) :=
  ⟨rfl, rfl, fun _ => .inr (.inl ⟨.bcc, off, rfl, rfl, rfl⟩)⟩
theorem bcs (off : Byte) : Statement (.bcs off) :=
  ⟨rfl, rfl, fun _ => .inr (.inl ⟨.bcs, off, rfl, rfl, rfl⟩)⟩
theorem beq (off : Byte) : Statement (.beq off) :=
  ⟨rfl, rfl, fun _ => .inr (.inl ⟨.beq, off, rfl, rfl, rfl⟩)⟩
theorem bne (off : Byte) : Statement (.bne off) :=
  ⟨rfl, rfl, fun _ => .inr (.inl ⟨.bne, off, rfl, rfl, rfl⟩)⟩
theorem bmi (off : Byte) : Statement (.bmi off) :=
  ⟨rfl, rfl, fun _ => .inr (.inl ⟨.bmi, off, rfl, rfl, rfl⟩)⟩
theorem bpl (off : Byte) : Statement (.bpl off) :=
  ⟨rfl, rfl, fun _ => .inr (.inl ⟨.bpl, off, rfl, rfl, rfl⟩)⟩
theorem bvc (off : Byte) : Statement (.bvc off) :=
  ⟨rfl, rfl, fun _ => .inr (.inl ⟨.bvc, off, rfl, rfl, rfl⟩)⟩
theorem bvs (off : Byte) : Statement (.bvs off) :=
  ⟨rfl, rfl, fun _ => .inr (.inl ⟨.bvs, off, rfl, rfl, rfl⟩)⟩
theorem jmpAbs (addr : Word) : Statement (.jmpAbs addr) :=
  ⟨rfl, rfl, fun _ => .inr (.inr ⟨.jmpAbs, addr, rfl, rfl, rfl⟩)⟩
/-- The one operand byte of an indirect JMP is its pointer (R51, R83). -/
theorem jmpInd (ptr : Word) : Statement (.jmpInd ptr) :=
  ⟨rfl, rfl, fun h => .inr (.inl ⟨fun p => .jmpInd (p.setWidth 16), loByte ptr, rfl, rfl,
    congrArg Instr.jmpInd (setWidth_loByte (wellFormed_jmpInd.1 h))⟩)⟩
theorem pha : Statement .pha := ⟨rfl, rfl, fun _ => .inl ⟨rfl, rfl⟩⟩
theorem pla : Statement .pla := ⟨rfl, rfl, fun _ => .inl ⟨rfl, rfl⟩⟩
theorem php : Statement .php := ⟨rfl, rfl, fun _ => .inl ⟨rfl, rfl⟩⟩
theorem plp : Statement .plp := ⟨rfl, rfl, fun _ => .inl ⟨rfl, rfl⟩⟩
theorem jsr (addr : Word) : Statement (.jsr addr) :=
  ⟨rfl, rfl, fun _ => .inr (.inr ⟨.jsr, addr, rfl, rfl, rfl⟩)⟩
theorem rts : Statement .rts := ⟨rfl, rfl, fun _ => .inl ⟨rfl, rfl⟩⟩
theorem brk : Statement .brk := ⟨rfl, rfl, fun _ => .inl ⟨rfl, rfl⟩⟩
theorem rti : Statement .rti := ⟨rfl, rfl, fun _ => .inl ⟨rfl, rfl⟩⟩
theorem ldaImm (v : Byte) : Statement (.ldaImm v) :=
  ⟨rfl, rfl, fun _ => .inr (.inl ⟨.ldaImm, v, rfl, rfl, rfl⟩)⟩
theorem ldaZp (z : Byte) : Statement (.ldaZp z) :=
  ⟨rfl, rfl, fun _ => .inr (.inl ⟨.ldaZp, z, rfl, rfl, rfl⟩)⟩
theorem ldaZpx (z : Byte) : Statement (.ldaZpx z) :=
  ⟨rfl, rfl, fun _ => .inr (.inl ⟨.ldaZpx, z, rfl, rfl, rfl⟩)⟩
theorem ldaAbs (addr : Word) : Statement (.ldaAbs addr) :=
  ⟨rfl, rfl, fun _ => .inr (.inr ⟨.ldaAbs, addr, rfl, rfl, rfl⟩)⟩
theorem ldaAbx (addr : Word) : Statement (.ldaAbx addr) :=
  ⟨rfl, rfl, fun _ => .inr (.inr ⟨.ldaAbx, addr, rfl, rfl, rfl⟩)⟩
theorem ldaAby (addr : Word) : Statement (.ldaAby addr) :=
  ⟨rfl, rfl, fun _ => .inr (.inr ⟨.ldaAby, addr, rfl, rfl, rfl⟩)⟩
theorem ldaIzx (ptr : Byte) : Statement (.ldaIzx ptr) :=
  ⟨rfl, rfl, fun _ => .inr (.inl ⟨.ldaIzx, ptr, rfl, rfl, rfl⟩)⟩
theorem ldaIzy (ptr : Byte) : Statement (.ldaIzy ptr) :=
  ⟨rfl, rfl, fun _ => .inr (.inl ⟨.ldaIzy, ptr, rfl, rfl, rfl⟩)⟩
theorem ldxImm (v : Byte) : Statement (.ldxImm v) :=
  ⟨rfl, rfl, fun _ => .inr (.inl ⟨.ldxImm, v, rfl, rfl, rfl⟩)⟩
theorem ldxZp (z : Byte) : Statement (.ldxZp z) :=
  ⟨rfl, rfl, fun _ => .inr (.inl ⟨.ldxZp, z, rfl, rfl, rfl⟩)⟩
theorem ldxZpy (z : Byte) : Statement (.ldxZpy z) :=
  ⟨rfl, rfl, fun _ => .inr (.inl ⟨.ldxZpy, z, rfl, rfl, rfl⟩)⟩
theorem ldxAbs (addr : Word) : Statement (.ldxAbs addr) :=
  ⟨rfl, rfl, fun _ => .inr (.inr ⟨.ldxAbs, addr, rfl, rfl, rfl⟩)⟩
theorem ldxAby (addr : Word) : Statement (.ldxAby addr) :=
  ⟨rfl, rfl, fun _ => .inr (.inr ⟨.ldxAby, addr, rfl, rfl, rfl⟩)⟩
theorem ldyImm (v : Byte) : Statement (.ldyImm v) :=
  ⟨rfl, rfl, fun _ => .inr (.inl ⟨.ldyImm, v, rfl, rfl, rfl⟩)⟩
theorem ldyZp (z : Byte) : Statement (.ldyZp z) :=
  ⟨rfl, rfl, fun _ => .inr (.inl ⟨.ldyZp, z, rfl, rfl, rfl⟩)⟩
theorem ldyZpx (z : Byte) : Statement (.ldyZpx z) :=
  ⟨rfl, rfl, fun _ => .inr (.inl ⟨.ldyZpx, z, rfl, rfl, rfl⟩)⟩
theorem ldyAbs (addr : Word) : Statement (.ldyAbs addr) :=
  ⟨rfl, rfl, fun _ => .inr (.inr ⟨.ldyAbs, addr, rfl, rfl, rfl⟩)⟩
theorem ldyAbx (addr : Word) : Statement (.ldyAbx addr) :=
  ⟨rfl, rfl, fun _ => .inr (.inr ⟨.ldyAbx, addr, rfl, rfl, rfl⟩)⟩
theorem staZp (z : Byte) : Statement (.staZp z) :=
  ⟨rfl, rfl, fun _ => .inr (.inl ⟨.staZp, z, rfl, rfl, rfl⟩)⟩
theorem staZpx (z : Byte) : Statement (.staZpx z) :=
  ⟨rfl, rfl, fun _ => .inr (.inl ⟨.staZpx, z, rfl, rfl, rfl⟩)⟩
theorem staAbs (addr : Word) : Statement (.staAbs addr) :=
  ⟨rfl, rfl, fun _ => .inr (.inr ⟨.staAbs, addr, rfl, rfl, rfl⟩)⟩
theorem staAbx (addr : Word) : Statement (.staAbx addr) :=
  ⟨rfl, rfl, fun _ => .inr (.inr ⟨.staAbx, addr, rfl, rfl, rfl⟩)⟩
theorem staAby (addr : Word) : Statement (.staAby addr) :=
  ⟨rfl, rfl, fun _ => .inr (.inr ⟨.staAby, addr, rfl, rfl, rfl⟩)⟩
theorem staIzx (ptr : Byte) : Statement (.staIzx ptr) :=
  ⟨rfl, rfl, fun _ => .inr (.inl ⟨.staIzx, ptr, rfl, rfl, rfl⟩)⟩
theorem staIzy (ptr : Byte) : Statement (.staIzy ptr) :=
  ⟨rfl, rfl, fun _ => .inr (.inl ⟨.staIzy, ptr, rfl, rfl, rfl⟩)⟩
theorem stxZp (z : Byte) : Statement (.stxZp z) :=
  ⟨rfl, rfl, fun _ => .inr (.inl ⟨.stxZp, z, rfl, rfl, rfl⟩)⟩
theorem stxZpy (z : Byte) : Statement (.stxZpy z) :=
  ⟨rfl, rfl, fun _ => .inr (.inl ⟨.stxZpy, z, rfl, rfl, rfl⟩)⟩
theorem stxAbs (addr : Word) : Statement (.stxAbs addr) :=
  ⟨rfl, rfl, fun _ => .inr (.inr ⟨.stxAbs, addr, rfl, rfl, rfl⟩)⟩
theorem styZp (z : Byte) : Statement (.styZp z) :=
  ⟨rfl, rfl, fun _ => .inr (.inl ⟨.styZp, z, rfl, rfl, rfl⟩)⟩
theorem styZpx (z : Byte) : Statement (.styZpx z) :=
  ⟨rfl, rfl, fun _ => .inr (.inl ⟨.styZpx, z, rfl, rfl, rfl⟩)⟩
theorem styAbs (addr : Word) : Statement (.styAbs addr) :=
  ⟨rfl, rfl, fun _ => .inr (.inr ⟨.styAbs, addr, rfl, rfl, rfl⟩)⟩
theorem tax : Statement .tax := ⟨rfl, rfl, fun _ => .inl ⟨rfl, rfl⟩⟩
theorem tay : Statement .tay := ⟨rfl, rfl, fun _ => .inl ⟨rfl, rfl⟩⟩
theorem txa : Statement .txa := ⟨rfl, rfl, fun _ => .inl ⟨rfl, rfl⟩⟩
theorem tya : Statement .tya := ⟨rfl, rfl, fun _ => .inl ⟨rfl, rfl⟩⟩
theorem tsx : Statement .tsx := ⟨rfl, rfl, fun _ => .inl ⟨rfl, rfl⟩⟩
theorem txs : Statement .txs := ⟨rfl, rfl, fun _ => .inl ⟨rfl, rfl⟩⟩
theorem sec : Statement .sec := ⟨rfl, rfl, fun _ => .inl ⟨rfl, rfl⟩⟩
theorem clc : Statement .clc := ⟨rfl, rfl, fun _ => .inl ⟨rfl, rfl⟩⟩
theorem sei : Statement .sei := ⟨rfl, rfl, fun _ => .inl ⟨rfl, rfl⟩⟩
theorem cli : Statement .cli := ⟨rfl, rfl, fun _ => .inl ⟨rfl, rfl⟩⟩
theorem sed : Statement .sed := ⟨rfl, rfl, fun _ => .inl ⟨rfl, rfl⟩⟩
theorem cld : Statement .cld := ⟨rfl, rfl, fun _ => .inl ⟨rfl, rfl⟩⟩
theorem clv : Statement .clv := ⟨rfl, rfl, fun _ => .inl ⟨rfl, rfl⟩⟩
theorem nop : Statement .nop := ⟨rfl, rfl, fun _ => .inl ⟨rfl, rfl⟩⟩

end Sys2Proof.Laws.Encoding

/-- The family holds of every instruction. -/
theorem Sys2Proof.Laws.encoding_holds (i : Sys2Proof.Instr) : Sys2Proof.Laws.Encoding.Statement i := by
  cases i
  case adcImm v => exact Encoding.adcImm v
  case adcZp z => exact Encoding.adcZp z
  case adcZpx z => exact Encoding.adcZpx z
  case adcAbs addr => exact Encoding.adcAbs addr
  case adcAbx addr => exact Encoding.adcAbx addr
  case adcAby addr => exact Encoding.adcAby addr
  case adcIzx ptr => exact Encoding.adcIzx ptr
  case adcIzy ptr => exact Encoding.adcIzy ptr
  case sbcImm v => exact Encoding.sbcImm v
  case sbcZp z => exact Encoding.sbcZp z
  case sbcZpx z => exact Encoding.sbcZpx z
  case sbcAbs addr => exact Encoding.sbcAbs addr
  case sbcAbx addr => exact Encoding.sbcAbx addr
  case sbcAby addr => exact Encoding.sbcAby addr
  case sbcIzx ptr => exact Encoding.sbcIzx ptr
  case sbcIzy ptr => exact Encoding.sbcIzy ptr
  case andImm v => exact Encoding.andImm v
  case andZp z => exact Encoding.andZp z
  case andZpx z => exact Encoding.andZpx z
  case andAbs addr => exact Encoding.andAbs addr
  case andAbx addr => exact Encoding.andAbx addr
  case andAby addr => exact Encoding.andAby addr
  case andIzx ptr => exact Encoding.andIzx ptr
  case andIzy ptr => exact Encoding.andIzy ptr
  case oraImm v => exact Encoding.oraImm v
  case oraZp z => exact Encoding.oraZp z
  case oraZpx z => exact Encoding.oraZpx z
  case oraAbs addr => exact Encoding.oraAbs addr
  case oraAbx addr => exact Encoding.oraAbx addr
  case oraAby addr => exact Encoding.oraAby addr
  case oraIzx ptr => exact Encoding.oraIzx ptr
  case oraIzy ptr => exact Encoding.oraIzy ptr
  case eorImm v => exact Encoding.eorImm v
  case eorZp z => exact Encoding.eorZp z
  case eorZpx z => exact Encoding.eorZpx z
  case eorAbs addr => exact Encoding.eorAbs addr
  case eorAbx addr => exact Encoding.eorAbx addr
  case eorAby addr => exact Encoding.eorAby addr
  case eorIzx ptr => exact Encoding.eorIzx ptr
  case eorIzy ptr => exact Encoding.eorIzy ptr
  case aslAcc => exact Encoding.aslAcc
  case aslZp z => exact Encoding.aslZp z
  case aslZpx z => exact Encoding.aslZpx z
  case aslAbs addr => exact Encoding.aslAbs addr
  case aslAbx addr => exact Encoding.aslAbx addr
  case lsrAcc => exact Encoding.lsrAcc
  case lsrZp z => exact Encoding.lsrZp z
  case lsrZpx z => exact Encoding.lsrZpx z
  case lsrAbs addr => exact Encoding.lsrAbs addr
  case lsrAbx addr => exact Encoding.lsrAbx addr
  case rolAcc => exact Encoding.rolAcc
  case rolZp z => exact Encoding.rolZp z
  case rolZpx z => exact Encoding.rolZpx z
  case rolAbs addr => exact Encoding.rolAbs addr
  case rolAbx addr => exact Encoding.rolAbx addr
  case rorAcc => exact Encoding.rorAcc
  case rorZp z => exact Encoding.rorZp z
  case rorZpx z => exact Encoding.rorZpx z
  case rorAbs addr => exact Encoding.rorAbs addr
  case rorAbx addr => exact Encoding.rorAbx addr
  case bitZp z => exact Encoding.bitZp z
  case bitAbs addr => exact Encoding.bitAbs addr
  case cmpImm v => exact Encoding.cmpImm v
  case cmpZp z => exact Encoding.cmpZp z
  case cmpZpx z => exact Encoding.cmpZpx z
  case cmpAbs addr => exact Encoding.cmpAbs addr
  case cmpAbx addr => exact Encoding.cmpAbx addr
  case cmpAby addr => exact Encoding.cmpAby addr
  case cmpIzx ptr => exact Encoding.cmpIzx ptr
  case cmpIzy ptr => exact Encoding.cmpIzy ptr
  case cpxImm v => exact Encoding.cpxImm v
  case cpxZp z => exact Encoding.cpxZp z
  case cpxAbs addr => exact Encoding.cpxAbs addr
  case cpyImm v => exact Encoding.cpyImm v
  case cpyZp z => exact Encoding.cpyZp z
  case cpyAbs addr => exact Encoding.cpyAbs addr
  case incZp z => exact Encoding.incZp z
  case incZpx z => exact Encoding.incZpx z
  case incAbs addr => exact Encoding.incAbs addr
  case incAbx addr => exact Encoding.incAbx addr
  case decZp z => exact Encoding.decZp z
  case decZpx z => exact Encoding.decZpx z
  case decAbs addr => exact Encoding.decAbs addr
  case decAbx addr => exact Encoding.decAbx addr
  case inx => exact Encoding.inx
  case dex => exact Encoding.dex
  case iny => exact Encoding.iny
  case dey => exact Encoding.dey
  case bcc off => exact Encoding.bcc off
  case bcs off => exact Encoding.bcs off
  case beq off => exact Encoding.beq off
  case bne off => exact Encoding.bne off
  case bmi off => exact Encoding.bmi off
  case bpl off => exact Encoding.bpl off
  case bvc off => exact Encoding.bvc off
  case bvs off => exact Encoding.bvs off
  case jmpAbs addr => exact Encoding.jmpAbs addr
  case jmpInd ptr => exact Encoding.jmpInd ptr
  case pha => exact Encoding.pha
  case pla => exact Encoding.pla
  case php => exact Encoding.php
  case plp => exact Encoding.plp
  case jsr addr => exact Encoding.jsr addr
  case rts => exact Encoding.rts
  case brk => exact Encoding.brk
  case rti => exact Encoding.rti
  case ldaImm v => exact Encoding.ldaImm v
  case ldaZp z => exact Encoding.ldaZp z
  case ldaZpx z => exact Encoding.ldaZpx z
  case ldaAbs addr => exact Encoding.ldaAbs addr
  case ldaAbx addr => exact Encoding.ldaAbx addr
  case ldaAby addr => exact Encoding.ldaAby addr
  case ldaIzx ptr => exact Encoding.ldaIzx ptr
  case ldaIzy ptr => exact Encoding.ldaIzy ptr
  case ldxImm v => exact Encoding.ldxImm v
  case ldxZp z => exact Encoding.ldxZp z
  case ldxZpy z => exact Encoding.ldxZpy z
  case ldxAbs addr => exact Encoding.ldxAbs addr
  case ldxAby addr => exact Encoding.ldxAby addr
  case ldyImm v => exact Encoding.ldyImm v
  case ldyZp z => exact Encoding.ldyZp z
  case ldyZpx z => exact Encoding.ldyZpx z
  case ldyAbs addr => exact Encoding.ldyAbs addr
  case ldyAbx addr => exact Encoding.ldyAbx addr
  case staZp z => exact Encoding.staZp z
  case staZpx z => exact Encoding.staZpx z
  case staAbs addr => exact Encoding.staAbs addr
  case staAbx addr => exact Encoding.staAbx addr
  case staAby addr => exact Encoding.staAby addr
  case staIzx ptr => exact Encoding.staIzx ptr
  case staIzy ptr => exact Encoding.staIzy ptr
  case stxZp z => exact Encoding.stxZp z
  case stxZpy z => exact Encoding.stxZpy z
  case stxAbs addr => exact Encoding.stxAbs addr
  case styZp z => exact Encoding.styZp z
  case styZpx z => exact Encoding.styZpx z
  case styAbs addr => exact Encoding.styAbs addr
  case tax => exact Encoding.tax
  case tay => exact Encoding.tay
  case txa => exact Encoding.txa
  case tya => exact Encoding.tya
  case tsx => exact Encoding.tsx
  case txs => exact Encoding.txs
  case sec => exact Encoding.sec
  case clc => exact Encoding.clc
  case sei => exact Encoding.sei
  case cli => exact Encoding.cli
  case sed => exact Encoding.sed
  case cld => exact Encoding.cld
  case clv => exact Encoding.clv
  case nop => exact Encoding.nop
end

