-- ==== Sys2Proof/Laws/Stack.lean ====
section
/-! SUPPORT. The stack: where its accesses go, that they keep memory canonical, and that a pull takes back what a push
put (spec/45_stack_subroutine_interrupt.md R155, R156). -/

namespace Sys2Proof.Machine

/-- A stack address lies on page 1, at offset `SP` (R155). -/
theorem stackAddress_toNat (sp : Byte) : (stackAddress sp).toNat = 256 + sp.toNat := by
  have := sp.isLt
  simp [stackAddress, addAddress_eq, Config.stackBase]
  omega

/-- Two stack addresses are equal only for equal offsets. -/
theorem stackAddress_inj {p q : Byte} : stackAddress p = stackAddress q ↔ p = q := by
  constructor
  · intro h
    have := congrArg BitVec.toNat h
    rw [stackAddress_toNat, stackAddress_toNat] at this
    exact BitVec.eq_of_toNat_eq (by omega)
  · rintro rfl; rfl

/-- `SP - 1` is another offset than `SP`. -/
theorem sub_one_ne (p : Byte) : p - 1 ≠ p := by bv_omega

/-- A push keeps memory canonical. -/
theorem State.push_wf {s : State} (h : s.mem.wf = true) (v : Byte) : (s.push v).mem.wf = true :=
  Memory.write_wf h _ _

/-- Two pushes keep memory canonical. -/
theorem State.pushWord_wf {s : State} (h : s.mem.wf = true) (w : Word) : (s.pushWord w).mem.wf = true :=
  State.push_wf (State.push_wf h _) _

/-- Where two pushes land: the high byte at `SP`, the low byte one offset below. -/
theorem State.pushWord_read {s : State} (h : s.mem.wf = true) (w : Word) (b : Word) :
    (s.pushWord w).read b =
      if b = stackAddress (s.sp - 1) then loByte w else if b = stackAddress s.sp then hiByte w else s.read b := by
  rw [State.pushWord_eq, State.push_read (State.push_wf h _), State.push_sp, State.push_read h]

/-- The trap entry keeps memory canonical. -/
theorem State.takeBreak_wf {s : State} (h : s.mem.wf = true) : s.takeBreak.mem.wf = true := by
  simp only [State.takeBreak, Config.brkSetsB, Config.brkPushes, Config.brkSetsI, if_true]
  exact State.push_wf (State.pushWord_wf h _) _

end Sys2Proof.Machine
end

