-- ==== Sys2Proof/Tests/Slice0.lean ====
section
/-! SUPPORT. This model's own tests. Expected values are the spec's: the words of R54's table (spec/30_encoding.md),
the lists of R55 and R59, and the vectors V1 to V127 and S1 to S10 of spec/95_test_vectors.md, each named in the
test's docstring. Then one witness for every statement that has hypotheses. -/

namespace Sys2Proof.Tests

open Sys2Proof.Machine Sys2Proof.Claims

/-! ## Words -/

/-- The bytes of an instruction, the instruction, its base cycle count, and whether its cell carries the `+` of R54. -/
abbrev WordRow := List Byte × Instr × Nat × Bool

/-- The bytes decode to the instruction with nothing left, the instruction encodes to the bytes, is well-formed, and
has the counts. -/
def wordRowOk (r : WordRow) : Bool :=
  decode r.1 == .ok r.2.1 [] && encode r.2.1 == r.1 && WellFormed r.2.1 && r.2.1.baseCycles == r.2.2.1 &&
    r.2.1.pagePenalty == r.2.2.2

/-- The start state of the vectors: `A`, `X`, `Y` and all flags 0, `SP` = 0xFF, `PC` = 0x0600, memory 0. -/
def start : State :=
  State.launch 0x0600#16 0xFF#8 0x00#8 0x00#8 0x00#8
    { c := false, z := false, i := false, d := false, b := false, v := false, n := false } []

/-- One step from `s` with the instruction's bytes put at `PC`. -/
def ran (bytes : List Byte) (s : State) : Option State :=
  match step (s.place s.pc bytes) with
  | .next t => some t
  | _ => none

/-- A state with canonical memory in which `bytes` stand at 0x0600. -/
def holding (bytes : List Byte) : State := start.place 0x0600#16 bytes

/-- R54, R51: the words of ADC, SBC. -/
theorem test_words_arithmetic : ([
    ([0x69#8, 0x86#8], .adcImm 0x86#8, 2, false),
    ([0x65#8, 0x86#8], .adcZp 0x86#8, 3, false),
    ([0x75#8, 0x86#8], .adcZpx 0x86#8, 4, false),
    ([0x6D#8, 0x34#8, 0x12#8], .adcAbs 0x1234#16, 4, false),
    ([0x7D#8, 0x34#8, 0x12#8], .adcAbx 0x1234#16, 4, true),
    ([0x79#8, 0x34#8, 0x12#8], .adcAby 0x1234#16, 4, true),
    ([0x61#8, 0x86#8], .adcIzx 0x86#8, 6, false),
    ([0x71#8, 0x86#8], .adcIzy 0x86#8, 5, true),
    ([0xE9#8, 0x86#8], .sbcImm 0x86#8, 2, false),
    ([0xE5#8, 0x86#8], .sbcZp 0x86#8, 3, false),
    ([0xF5#8, 0x86#8], .sbcZpx 0x86#8, 4, false),
    ([0xED#8, 0x34#8, 0x12#8], .sbcAbs 0x1234#16, 4, false),
    ([0xFD#8, 0x34#8, 0x12#8], .sbcAbx 0x1234#16, 4, true),
    ([0xF9#8, 0x34#8, 0x12#8], .sbcAby 0x1234#16, 4, true),
    ([0xE1#8, 0x86#8], .sbcIzx 0x86#8, 6, false),
    ([0xF1#8, 0x86#8], .sbcIzy 0x86#8, 5, true)] : List WordRow).all wordRowOk = true := by decide

/-- R54, R51: the words of AND, ORA, EOR, BIT. -/
theorem test_words_logic : ([
    ([0x29#8, 0x86#8], .andImm 0x86#8, 2, false),
    ([0x25#8, 0x86#8], .andZp 0x86#8, 3, false),
    ([0x35#8, 0x86#8], .andZpx 0x86#8, 4, false),
    ([0x2D#8, 0x34#8, 0x12#8], .andAbs 0x1234#16, 4, false),
    ([0x3D#8, 0x34#8, 0x12#8], .andAbx 0x1234#16, 4, true),
    ([0x39#8, 0x34#8, 0x12#8], .andAby 0x1234#16, 4, true),
    ([0x21#8, 0x86#8], .andIzx 0x86#8, 6, false),
    ([0x31#8, 0x86#8], .andIzy 0x86#8, 5, true),
    ([0x09#8, 0x86#8], .oraImm 0x86#8, 2, false),
    ([0x05#8, 0x86#8], .oraZp 0x86#8, 3, false),
    ([0x15#8, 0x86#8], .oraZpx 0x86#8, 4, false),
    ([0x0D#8, 0x34#8, 0x12#8], .oraAbs 0x1234#16, 4, false),
    ([0x1D#8, 0x34#8, 0x12#8], .oraAbx 0x1234#16, 4, true),
    ([0x19#8, 0x34#8, 0x12#8], .oraAby 0x1234#16, 4, true),
    ([0x01#8, 0x86#8], .oraIzx 0x86#8, 6, false),
    ([0x11#8, 0x86#8], .oraIzy 0x86#8, 5, true),
    ([0x49#8, 0x86#8], .eorImm 0x86#8, 2, false),
    ([0x45#8, 0x86#8], .eorZp 0x86#8, 3, false),
    ([0x55#8, 0x86#8], .eorZpx 0x86#8, 4, false),
    ([0x4D#8, 0x34#8, 0x12#8], .eorAbs 0x1234#16, 4, false),
    ([0x5D#8, 0x34#8, 0x12#8], .eorAbx 0x1234#16, 4, true),
    ([0x59#8, 0x34#8, 0x12#8], .eorAby 0x1234#16, 4, true),
    ([0x41#8, 0x86#8], .eorIzx 0x86#8, 6, false),
    ([0x51#8, 0x86#8], .eorIzy 0x86#8, 5, true),
    ([0x24#8, 0x86#8], .bitZp 0x86#8, 3, false),
    ([0x2C#8, 0x34#8, 0x12#8], .bitAbs 0x1234#16, 4, false)] : List WordRow).all wordRowOk = true := by decide

/-- R54, R51: the words of ASL, LSR, ROL, ROR. -/
theorem test_words_shift : ([
    ([0x0A#8], .aslAcc, 2, false),
    ([0x06#8, 0x86#8], .aslZp 0x86#8, 5, false),
    ([0x16#8, 0x86#8], .aslZpx 0x86#8, 6, false),
    ([0x0E#8, 0x34#8, 0x12#8], .aslAbs 0x1234#16, 6, false),
    ([0x1E#8, 0x34#8, 0x12#8], .aslAbx 0x1234#16, 7, false),
    ([0x4A#8], .lsrAcc, 2, false),
    ([0x46#8, 0x86#8], .lsrZp 0x86#8, 5, false),
    ([0x56#8, 0x86#8], .lsrZpx 0x86#8, 6, false),
    ([0x4E#8, 0x34#8, 0x12#8], .lsrAbs 0x1234#16, 6, false),
    ([0x5E#8, 0x34#8, 0x12#8], .lsrAbx 0x1234#16, 7, false),
    ([0x2A#8], .rolAcc, 2, false),
    ([0x26#8, 0x86#8], .rolZp 0x86#8, 5, false),
    ([0x36#8, 0x86#8], .rolZpx 0x86#8, 6, false),
    ([0x2E#8, 0x34#8, 0x12#8], .rolAbs 0x1234#16, 6, false),
    ([0x3E#8, 0x34#8, 0x12#8], .rolAbx 0x1234#16, 7, false),
    ([0x6A#8], .rorAcc, 2, false),
    ([0x66#8, 0x86#8], .rorZp 0x86#8, 5, false),
    ([0x76#8, 0x86#8], .rorZpx 0x86#8, 6, false),
    ([0x6E#8, 0x34#8, 0x12#8], .rorAbs 0x1234#16, 6, false),
    ([0x7E#8, 0x34#8, 0x12#8], .rorAbx 0x1234#16, 7, false)] : List WordRow).all wordRowOk = true := by decide

/-- R54, R51: the words of CMP, CPX, CPY. -/
theorem test_words_compare : ([
    ([0xC9#8, 0x86#8], .cmpImm 0x86#8, 2, false),
    ([0xC5#8, 0x86#8], .cmpZp 0x86#8, 3, false),
    ([0xD5#8, 0x86#8], .cmpZpx 0x86#8, 4, false),
    ([0xCD#8, 0x34#8, 0x12#8], .cmpAbs 0x1234#16, 4, false),
    ([0xDD#8, 0x34#8, 0x12#8], .cmpAbx 0x1234#16, 4, true),
    ([0xD9#8, 0x34#8, 0x12#8], .cmpAby 0x1234#16, 4, true),
    ([0xC1#8, 0x86#8], .cmpIzx 0x86#8, 6, false),
    ([0xD1#8, 0x86#8], .cmpIzy 0x86#8, 5, true),
    ([0xE0#8, 0x86#8], .cpxImm 0x86#8, 2, false),
    ([0xE4#8, 0x86#8], .cpxZp 0x86#8, 3, false),
    ([0xEC#8, 0x34#8, 0x12#8], .cpxAbs 0x1234#16, 4, false),
    ([0xC0#8, 0x86#8], .cpyImm 0x86#8, 2, false),
    ([0xC4#8, 0x86#8], .cpyZp 0x86#8, 3, false),
    ([0xCC#8, 0x34#8, 0x12#8], .cpyAbs 0x1234#16, 4, false)] : List WordRow).all wordRowOk = true := by decide

/-- R54, R51: the words of INC, DEC, INX, DEX, INY, DEY. -/
theorem test_words_incdec : ([
    ([0xE6#8, 0x86#8], .incZp 0x86#8, 5, false),
    ([0xF6#8, 0x86#8], .incZpx 0x86#8, 6, false),
    ([0xEE#8, 0x34#8, 0x12#8], .incAbs 0x1234#16, 6, false),
    ([0xFE#8, 0x34#8, 0x12#8], .incAbx 0x1234#16, 7, false),
    ([0xC6#8, 0x86#8], .decZp 0x86#8, 5, false),
    ([0xD6#8, 0x86#8], .decZpx 0x86#8, 6, false),
    ([0xCE#8, 0x34#8, 0x12#8], .decAbs 0x1234#16, 6, false),
    ([0xDE#8, 0x34#8, 0x12#8], .decAbx 0x1234#16, 7, false),
    ([0xE8#8], .inx, 2, false),
    ([0xCA#8], .dex, 2, false),
    ([0xC8#8], .iny, 2, false),
    ([0x88#8], .dey, 2, false)] : List WordRow).all wordRowOk = true := by decide

/-- R54, R51: the words of BCC, BCS, BEQ, BNE, BMI, BPL, BVC, BVS, JMP. -/
theorem test_words_branch_jump : ([
    ([0x90#8, 0x86#8], .bcc 0x86#8, 2, false),
    ([0xB0#8, 0x86#8], .bcs 0x86#8, 2, false),
    ([0xF0#8, 0x86#8], .beq 0x86#8, 2, false),
    ([0xD0#8, 0x86#8], .bne 0x86#8, 2, false),
    ([0x30#8, 0x86#8], .bmi 0x86#8, 2, false),
    ([0x10#8, 0x86#8], .bpl 0x86#8, 2, false),
    ([0x50#8, 0x86#8], .bvc 0x86#8, 2, false),
    ([0x70#8, 0x86#8], .bvs 0x86#8, 2, false),
    ([0x4C#8, 0x34#8, 0x12#8], .jmpAbs 0x1234#16, 3, false),
    ([0x6C#8, 0x86#8], .jmpInd 0x0086#16, 5, false)] : List WordRow).all wordRowOk = true := by decide

/-- R54, R51: the words of PHA, PLA, PHP, PLP, JSR, RTS, BRK, RTI. -/
theorem test_words_stack_interrupt : ([
    ([0x48#8], .pha, 3, false),
    ([0x68#8], .pla, 4, false),
    ([0x08#8], .php, 3, false),
    ([0x28#8], .plp, 4, false),
    ([0x20#8, 0x34#8, 0x12#8], .jsr 0x1234#16, 6, false),
    ([0x60#8], .rts, 6, false),
    ([0x00#8], .brk, 7, false),
    ([0x40#8], .rti, 6, false)] : List WordRow).all wordRowOk = true := by decide

/-- R54, R51: the words of LDA, LDX, LDY. -/
theorem test_words_load : ([
    ([0xA9#8, 0x86#8], .ldaImm 0x86#8, 2, false),
    ([0xA5#8, 0x86#8], .ldaZp 0x86#8, 3, false),
    ([0xB5#8, 0x86#8], .ldaZpx 0x86#8, 4, false),
    ([0xAD#8, 0x34#8, 0x12#8], .ldaAbs 0x1234#16, 4, false),
    ([0xBD#8, 0x34#8, 0x12#8], .ldaAbx 0x1234#16, 4, true),
    ([0xB9#8, 0x34#8, 0x12#8], .ldaAby 0x1234#16, 4, true),
    ([0xA1#8, 0x86#8], .ldaIzx 0x86#8, 6, false),
    ([0xB1#8, 0x86#8], .ldaIzy 0x86#8, 5, true),
    ([0xA2#8, 0x86#8], .ldxImm 0x86#8, 2, false),
    ([0xA6#8, 0x86#8], .ldxZp 0x86#8, 3, false),
    ([0xB6#8, 0x86#8], .ldxZpy 0x86#8, 4, false),
    ([0xAE#8, 0x34#8, 0x12#8], .ldxAbs 0x1234#16, 4, false),
    ([0xBE#8, 0x34#8, 0x12#8], .ldxAby 0x1234#16, 4, true),
    ([0xA0#8, 0x86#8], .ldyImm 0x86#8, 2, false),
    ([0xA4#8, 0x86#8], .ldyZp 0x86#8, 3, false),
    ([0xB4#8, 0x86#8], .ldyZpx 0x86#8, 4, false),
    ([0xAC#8, 0x34#8, 0x12#8], .ldyAbs 0x1234#16, 4, false),
    ([0xBC#8, 0x34#8, 0x12#8], .ldyAbx 0x1234#16, 4, true)] : List WordRow).all wordRowOk = true := by decide

/-- R54, R51: the words of STA, STX, STY. -/
theorem test_words_store : ([
    ([0x85#8, 0x86#8], .staZp 0x86#8, 3, false),
    ([0x95#8, 0x86#8], .staZpx 0x86#8, 4, false),
    ([0x8D#8, 0x34#8, 0x12#8], .staAbs 0x1234#16, 4, false),
    ([0x9D#8, 0x34#8, 0x12#8], .staAbx 0x1234#16, 5, false),
    ([0x99#8, 0x34#8, 0x12#8], .staAby 0x1234#16, 5, false),
    ([0x81#8, 0x86#8], .staIzx 0x86#8, 6, false),
    ([0x91#8, 0x86#8], .staIzy 0x86#8, 6, false),
    ([0x86#8, 0x86#8], .stxZp 0x86#8, 3, false),
    ([0x96#8, 0x86#8], .stxZpy 0x86#8, 4, false),
    ([0x8E#8, 0x34#8, 0x12#8], .stxAbs 0x1234#16, 4, false),
    ([0x84#8, 0x86#8], .styZp 0x86#8, 3, false),
    ([0x94#8, 0x86#8], .styZpx 0x86#8, 4, false),
    ([0x8C#8, 0x34#8, 0x12#8], .styAbs 0x1234#16, 4, false)] : List WordRow).all wordRowOk = true := by decide

/-- R54, R51: the words of TAX, TAY, TXA, TYA, TSX, TXS. -/
theorem test_words_transfer : ([
    ([0xAA#8], .tax, 2, false),
    ([0xA8#8], .tay, 2, false),
    ([0x8A#8], .txa, 2, false),
    ([0x98#8], .tya, 2, false),
    ([0xBA#8], .tsx, 2, false),
    ([0x9A#8], .txs, 2, false)] : List WordRow).all wordRowOk = true := by decide

/-- R54, R51: the words of SEC, CLC, SEI, CLI, SED, CLD, CLV, NOP. -/
theorem test_words_flag : ([
    ([0x38#8], .sec, 2, false),
    ([0x18#8], .clc, 2, false),
    ([0x78#8], .sei, 2, false),
    ([0x58#8], .cli, 2, false),
    ([0xF8#8], .sed, 2, false),
    ([0xD8#8], .cld, 2, false),
    ([0xB8#8], .clv, 2, false),
    ([0xEA#8], .nop, 2, false)] : List WordRow).all wordRowOk = true := by decide

/-! ## Single steps: the vectors of spec/95_test_vectors.md -/

/-- V1, V2, V3. -/
theorem test_adc_binary :
    (ran [0x69#8, 0x01#8] { start with a := 0x7F#8 }).map (fun t => (t.a, pack t.flags, t.pc, t.cycles)) =
      some (0x80#8, 0xE0#8, 0x0602#16, some 2) ∧
    (ran [0x69#8, 0x80#8] { start with a := 0x80#8 }).map (fun t => (t.a, pack t.flags)) =
      some (0x00#8, 0x63#8) ∧
    (ran [0x69#8, 0x00#8] { start with a := 0xFF#8, flags := unpack 0x01#8 }).map (fun t => (t.a, pack t.flags)) =
      some (0x00#8, 0x23#8) := by decide

/-- S7. -/
theorem test_adc_wrap :
    (ran [0x69#8, 0x03#8]
        { start with a := 0x02#8, pc := 0xFFFF#16 }).map (fun t => (t.a, t.pc, pack t.flags, t.cycles)) =
      some (0x05#8, 0x0001#16, 0x20#8, some 2) := by decide

/-- V5, V7, V10. -/
theorem test_adc_decimal :
    (ran [0x69#8, 0x46#8] { start with a := 0x58#8, flags := unpack 0x08#8 }).map (fun t => (t.a, pack t.flags)) =
      some (0x04#8, 0x69#8) ∧
    (ran [0x69#8, 0x34#8] { start with a := 0x12#8, flags := unpack 0x09#8 }).map (fun t => (t.a, pack t.flags)) =
      some (0x47#8, 0x28#8) ∧
    (ran [0x69#8, 0xFF#8] { start with a := 0xFF#8, flags := unpack 0x09#8 }).map (fun t => (t.a, pack t.flags)) =
      some (0x31#8, 0x29#8) := by decide

/-- V12, V14, S10. -/
theorem test_sbc_binary :
    (ran [0xE9#8, 0x01#8] { start with a := 0x00#8, flags := unpack 0x01#8 }).map (fun t => (t.a, pack t.flags)) =
      some (0xFF#8, 0xA0#8) ∧
    (ran [0xE9#8, 0x80#8] { start with a := 0x00#8, flags := unpack 0x01#8 }).map (fun t => (t.a, pack t.flags)) =
      some (0x80#8, 0xE0#8) ∧
    (ran [0xE9#8, 0xB0#8] { start with a := 0x50#8, flags := unpack 0x01#8 }).map (fun t => (t.a, pack t.flags)) =
      some (0xA0#8, 0xE0#8) := by decide

/-- V18, V19. -/
theorem test_sbc_decimal :
    (ran [0xE9#8, 0x01#8] { start with a := 0x00#8, flags := unpack 0x09#8 }).map (fun t => (t.a, pack t.flags)) =
      some (0x99#8, 0xA8#8) ∧
    (ran [0xE9#8, 0x13#8] { start with a := 0x40#8, flags := unpack 0x08#8 }).map (fun t => (t.a, pack t.flags)) =
      some (0x26#8, 0x29#8) := by decide

/-- V21. -/
theorem test_and :
    (ran [0x29#8, 0xAA#8] { start with a := 0xCC#8 }).map (fun t => (t.a, pack t.flags)) =
      some (0x88#8, 0xA0#8) := by decide

/-- V23. -/
theorem test_ora :
    (ran [0x09#8, 0x80#8] { start with a := 0x0F#8 }).map (fun t => (t.a, pack t.flags)) =
      some (0x8F#8, 0xA0#8) := by decide

/-- V25. -/
theorem test_eor :
    (ran [0x49#8, 0x0F#8] { start with a := 0xFF#8 }).map (fun t => (t.a, pack t.flags)) =
      some (0xF0#8, 0xA0#8) := by decide

/-- V29, V38. -/
theorem test_asl :
    (ran [0x0A#8] { start with a := 0x40#8, flags := unpack 0x01#8 }).map (fun t => (t.a, pack t.flags, t.pc)) =
      some (0x80#8, 0xA0#8, 0x0601#16) ∧
    (ran [0x06#8, 0x10#8] (start.place 0x0010#16 [0xC0#8])).map (fun t => (t.read 0x0010#16, pack t.flags, t.cycles)) =
      some (0x80#8, 0xA1#8, some 5) := by decide

/-- V30, V40. -/
theorem test_lsr :
    (ran [0x4A#8] { start with a := 0x81#8, flags := unpack 0x80#8 }).map (fun t => (t.a, pack t.flags)) =
      some (0x40#8, 0x21#8) ∧
    (ran [0x5E#8, 0xFF#8, 0x12#8]
        (State.place { start with x := 0x01#8 } 0x1300#16 [0x02#8])).map (fun t =>
      (t.read 0x1300#16, pack t.flags, t.cycles)) =
      some (0x01#8, 0x20#8, some 7) := by decide

/-- V33. -/
theorem test_rol :
    (ran [0x2A#8] { start with a := 0x40#8, flags := unpack 0x01#8 }).map (fun t => (t.a, pack t.flags)) =
      some (0x81#8, 0xA0#8) := by decide

/-- V35, V39. -/
theorem test_ror :
    (ran [0x6A#8] { start with a := 0x01#8, flags := unpack 0x01#8 }).map (fun t => (t.a, pack t.flags)) =
      some (0x80#8, 0xA1#8) ∧
    (ran [0x76#8, 0x10#8]
        (State.place { start with x := 0x05#8, flags := unpack 0x01#8 } 0x0015#16 [0x03#8])).map (fun t =>
      (t.read 0x0015#16, pack t.flags, t.cycles)) =
      some (0x81#8, 0xA1#8, some 6) := by decide

/-- V41, V42. -/
theorem test_bit :
    (ran [0x24#8, 0x10#8]
        (State.place { start with a := 0x01#8 } 0x0010#16 [0xC0#8])).map (fun t => (t.a, pack t.flags, t.cycles)) =
      some (0x01#8, 0xE2#8, some 3) ∧
    (ran [0x24#8, 0x10#8]
        (State.place { start with a := 0xFF#8, flags := unpack 0xC0#8 } 0x0010#16 [0x3F#8])).map (fun t =>
      (pack t.flags)) =
      some (0x20#8) := by decide

/-- V44, V48. -/
theorem test_cmp :
    (ran [0xC9#8, 0x40#8] { start with a := 0x40#8 }).map (fun t => (t.a, pack t.flags)) =
      some (0x40#8, 0x23#8) ∧
    (ran [0xC9#8, 0x80#8] { start with a := 0x00#8 }).map (fun t => (pack t.flags)) =
      some (0xA0#8) := by decide

/-- V49. -/
theorem test_cpx :
    (ran [0xE0#8, 0x03#8] { start with x := 0x05#8 }).map (fun t => (pack t.flags)) =
      some (0x21#8) := by decide

/-- V50. -/
theorem test_cpy :
    (ran [0xC0#8, 0xFF#8] { start with y := 0x00#8 }).map (fun t => (pack t.flags)) =
      some (0x20#8) := by decide

/-- V51. -/
theorem test_inc :
    (ran [0xE6#8, 0x10#8] (start.place 0x0010#16 [0xFF#8])).map (fun t => (t.read 0x0010#16, pack t.flags, t.cycles)) =
      some (0x00#8, 0x22#8, some 5) := by decide

/-- V53. -/
theorem test_dec :
    (ran [0xC6#8, 0x10#8] (start.place 0x0010#16 [0x00#8])).map (fun t => (t.read 0x0010#16, pack t.flags, t.cycles)) =
      some (0xFF#8, 0xA0#8, some 5) := by decide

/-- V55. -/
theorem test_inx :
    (ran [0xE8#8] { start with x := 0xFF#8 }).map (fun t => (t.x, pack t.flags)) =
      some (0x00#8, 0x22#8) := by decide

/-- V57. -/
theorem test_dex :
    (ran [0xCA#8] { start with x := 0x00#8 }).map (fun t => (t.x, pack t.flags)) =
      some (0xFF#8, 0xA0#8) := by decide

/-- V59. -/
theorem test_iny :
    (ran [0xC8#8] { start with y := 0xFF#8 }).map (fun t => (t.y, pack t.flags)) =
      some (0x00#8, 0x22#8) := by decide

/-- V60. -/
theorem test_dey :
    (ran [0x88#8] { start with y := 0x00#8 }).map (fun t => (t.y, pack t.flags)) =
      some (0xFF#8, 0xA0#8) := by decide

/-- V61, V62. -/
theorem test_bcc :
    (ran [0x90#8, 0x04#8] start).map (fun t => (t.pc, t.cycles)) =
      some (0x0606#16, some 3) ∧
    (ran [0x90#8, 0x04#8] { start with flags := unpack 0x01#8 }).map (fun t => (t.pc, t.cycles)) =
      some (0x0602#16, some 2) := by decide

/-- V63. -/
theorem test_bcs :
    (ran [0xB0#8, 0xFC#8] { start with flags := unpack 0x01#8 }).map (fun t => (t.pc, t.cycles)) =
      some (0x05FE#16, some 4) := by decide

/-- V64, V70. -/
theorem test_bne :
    (ran [0xD0#8, 0xFB#8] { start with pc := 0x0605#16 }).map (fun t => (t.pc, t.cycles)) =
      some (0x0602#16, some 3) ∧
    (ran [0xD0#8, 0x05#8] { start with pc := 0x06FD#16 }).map (fun t => (t.pc, t.cycles)) =
      some (0x0704#16, some 4) := by decide

/-- V65. -/
theorem test_bmi :
    (ran [0x30#8, 0x7F#8] { start with flags := unpack 0x80#8 }).map (fun t => (t.pc, pack t.flags, t.cycles)) =
      some (0x0681#16, 0xA0#8, some 3) := by decide

/-- V66. -/
theorem test_bpl :
    (ran [0x10#8, 0x80#8] start).map (fun t => (t.pc, t.cycles)) =
      some (0x0582#16, some 4) := by decide

/-- V67. -/
theorem test_bvc :
    (ran [0x50#8, 0x00#8] start).map (fun t => (t.pc, t.cycles)) =
      some (0x0602#16, some 3) := by decide

/-- V68. -/
theorem test_bvs :
    (ran [0x70#8, 0x05#8]
        { start with pc := 0xFFFD#16, flags := unpack 0x40#8 }).map (fun t => (t.pc, pack t.flags, t.cycles)) =
      some (0x0004#16, 0x60#8, some 4) := by decide

/-- V69, S6. -/
theorem test_beq :
    (ran [0xF0#8, 0xFE#8] { start with flags := unpack 0x02#8 }).map (fun t => (t.pc, t.cycles)) =
      some (0x0600#16, some 3) ∧
    (ran [0xF0#8, 0x10#8] { start with flags := unpack 0x02#8, pc := 0x06F0#16 }).map (fun t => (t.pc, t.cycles)) =
      some (0x0702#16, some 4) := by decide

/-- V71. -/
theorem test_jmp_abs :
    (ran [0x4C#8, 0x34#8, 0x12#8] start).map (fun t => (t.pc, t.cycles)) =
      some (0x1234#16, some 3) := by decide

/-- V73. -/
theorem test_jmp_ind :
    (ran [0x6C#8, 0xFF#8]
        ((start.place 0x00FF#16 [0x34#8, 0x12#8]).place 0x0000#16 [0x99#8])).map (fun t => (t.pc, t.cycles)) =
      some (0x1234#16, some 5) := by decide

/-- V83. -/
theorem test_pha :
    (ran [0x48#8] { start with a := 0x11#8, sp := 0x00#8 }).map (fun t => (t.read 0x0100#16, t.sp, t.cycles)) =
      some (0x11#8, 0xFF#8, some 3) := by decide

/-- V75. -/
theorem test_pla :
    (ran [0x68#8]
        (State.place { start with sp := 0xFE#8 } 0x01FF#16 [0x80#8])).map (fun t =>
      (t.a, t.sp, pack t.flags, t.cycles)) =
      some (0x80#8, 0xFF#8, 0xA0#8, some 4) := by decide

/-- V77, V79. -/
theorem test_php :
    (ran [0x08#8] { start with flags := unpack 0x03#8 }).map (fun t => (t.read 0x01FF#16, t.sp, t.cycles)) =
      some (0x23#8, 0xFE#8, some 3) ∧
    (ran [0x08#8] { start with flags := unpack 0xFF#8 }).map (fun t => (t.read 0x01FF#16)) =
      some (0xFF#8) := by decide

/-- V80. -/
theorem test_plp :
    (ran [0x28#8]
        (State.place { start with sp := 0xFE#8 } 0x01FF#16 [0xC3#8])).map (fun t => (t.sp, pack t.flags, t.cycles)) =
      some (0xFF#8, 0xE3#8, some 4) := by decide

/-- V85. -/
theorem test_jsr :
    (ran [0x20#8, 0x34#8, 0x12#8]
        { start with sp := 0x00#8 }).map (fun t => (t.read 0x0100#16, t.read 0x01FF#16, t.sp, t.pc, t.cycles)) =
      some (0x06#8, 0x02#8, 0xFE#8, 0x1234#16, some 6) := by decide

/-- V87. -/
theorem test_rts :
    (ran [0x60#8]
        (State.place { start with sp := 0xFD#8 } 0x01FE#16 [0xFF#8, 0xFF#8])).map (fun t => (t.pc, t.sp, t.cycles)) =
      some (0x0000#16, 0xFF#8, some 6) := by decide

/-- V88, V89. -/
theorem test_brk :
    (ran [0x00#8]
        (start.place 0xFFFE#16 [0x00#8, 0x90#8])).map (fun t =>
      (t.read 0x01FF#16, t.read 0x01FE#16, t.read 0x01FD#16, t.cycles)) =
      some (0x06#8, 0x02#8, 0x30#8, some 7) ∧
    (ran [0x00#8]
        (State.place { start with flags := unpack 0x85#8 } 0xFFFE#16 [0x00#8, 0x90#8])).map (fun t =>
      (t.read 0x01FD#16, t.sp, pack t.flags, t.pc)) =
      some (0xB5#8, 0xFC#8, 0xB5#8, 0x9000#16) := by decide

/-- V91. -/
theorem test_rti :
    (ran [0x40#8]
        (State.place { start with sp := 0xFC#8, flags := unpack 0x04#8 }
           0x01FD#16 [0xC3#8, 0x34#8, 0x12#8])).map (fun t =>
      (pack t.flags, t.pc, t.sp, t.cycles)) =
      some (0xE3#8, 0x1234#16, 0xFF#8, some 6) := by decide

/-- V94. -/
theorem test_lda_zpx :
    (ran [0xB5#8, 0xF0#8]
        ((State.place { start with x := 0x20#8 } 0x0010#16 [0x77#8]).place 0x0110#16 [0x99#8])).map (fun t =>
      (t.a, t.cycles)) =
      some (0x77#8, some 4) := by decide

/-- V104. -/
theorem test_lda_izx :
    (ran [0xA1#8, 0xFF#8]
        ((((start.place 0x00FF#16 [0x34#8, 0x12#8]).place 0x0000#16 [0x99#8]).place
           0x1234#16 [0xA5#8]).place 0x9934#16 [0x5A#8])).map (fun t =>
      (t.a, pack t.flags, t.cycles)) =
      some (0xA5#8, 0xA0#8, some 6) := by decide

/-- V96, V97. -/
theorem test_lda_izy :
    (ran [0xB1#8, 0x86#8]
        ((State.place { start with y := 0x10#8 } 0x0086#16 [0xF8#8, 0x40#8]).place 0x4108#16 [0x33#8])).map (fun t =>
      (t.a, t.cycles)) =
      some (0x33#8, some 6) ∧
    (ran [0xB1#8, 0x86#8]
        ((State.place { start with y := 0x07#8 } 0x0086#16 [0xF8#8, 0x40#8]).place 0x40FF#16 [0x44#8])).map (fun t =>
      (t.a, t.cycles)) =
      some (0x44#8, some 5) := by decide

/-- V99. -/
theorem test_lda_abx :
    (ran [0xBD#8, 0xF0#8, 0xFF#8]
        (State.place { start with x := 0x20#8 } 0x0010#16 [0x66#8])).map (fun t => (t.a, t.cycles)) =
      some (0x66#8, some 5) := by decide

/-- V98. -/
theorem test_lda_aby :
    (ran [0xB9#8, 0xFF#8, 0x12#8]
        (State.place { start with y := 0x01#8 } 0x1300#16 [0x01#8])).map (fun t => (t.a, t.cycles)) =
      some (0x01#8, some 5) := by decide

/-- V100. -/
theorem test_ldx :
    (ran [0xB6#8, 0xFF#8]
        (State.place { start with y := 0x02#8 } 0x0001#16 [0xEE#8])).map (fun t => (t.x, pack t.flags, t.cycles)) =
      some (0xEE#8, 0xA0#8, some 4) := by decide

/-- V103. -/
theorem test_ldy :
    (ran [0xBC#8, 0xF0#8, 0x00#8]
        (State.place { start with x := 0x20#8 } 0x0110#16 [0x07#8])).map (fun t => (t.y, t.cycles)) =
      some (0x07#8, some 5) := by decide

/-- V106, V107. -/
theorem test_sta :
    (ran [0x9D#8, 0xF0#8, 0x00#8] { start with a := 0x5A#8, x := 0x20#8 }).map (fun t => (t.read 0x0110#16, t.cycles)) =
      some (0x5A#8, some 5) ∧
    (ran [0x91#8, 0x12#8]
        (State.place { start with a := 0x77#8, y := 0x02#8 } 0x0012#16 [0xFE#8, 0x30#8])).map (fun t =>
      (t.read 0x3100#16, t.cycles)) =
      some (0x77#8, some 6) := by decide

/-- V110. -/
theorem test_stx :
    (ran [0x96#8, 0xFF#8] { start with x := 0x44#8, y := 0x02#8 }).map (fun t => (t.read 0x0001#16, t.cycles)) =
      some (0x44#8, some 4) := by decide

/-- V109. -/
theorem test_sty :
    (ran [0x94#8, 0x10#8] { start with y := 0x09#8, x := 0x01#8 }).map (fun t => (t.read 0x0011#16, t.cycles)) =
      some (0x09#8, some 4) := by decide

/-- V111. -/
theorem test_tax :
    (ran [0xAA#8] { start with a := 0x80#8 }).map (fun t => (t.x, pack t.flags)) =
      some (0x80#8, 0xA0#8) := by decide

/-- V112. -/
theorem test_tay :
    (ran [0xA8#8] { start with a := 0x00#8, y := 0x03#8 }).map (fun t => (t.y, pack t.flags)) =
      some (0x00#8, 0x22#8) := by decide

/-- V113. -/
theorem test_txa :
    (ran [0x8A#8] { start with x := 0x7F#8, flags := unpack 0x80#8 }).map (fun t => (t.a, pack t.flags)) =
      some (0x7F#8, 0x20#8) := by decide

/-- V114. -/
theorem test_tya :
    (ran [0x98#8] { start with y := 0xFF#8 }).map (fun t => (t.a, pack t.flags)) =
      some (0xFF#8, 0xA0#8) := by decide

/-- V115. -/
theorem test_tsx :
    (ran [0xBA#8] { start with sp := 0xFD#8 }).map (fun t => (t.x, pack t.flags)) =
      some (0xFD#8, 0xA0#8) := by decide

/-- V116. -/
theorem test_txs :
    (ran [0x9A#8] { start with x := 0x00#8, flags := unpack 0x80#8 }).map (fun t => (t.sp, pack t.flags)) =
      some (0x00#8, 0xA0#8) := by decide

/-- V117. -/
theorem test_sec :
    (ran [0x38#8] start).map (fun t => (pack t.flags)) =
      some (0x21#8) := by decide

/-- V118. -/
theorem test_clc :
    (ran [0x18#8] { start with flags := unpack 0x01#8 }).map (fun t => (pack t.flags)) =
      some (0x20#8) := by decide

/-- V119. -/
theorem test_sei :
    (ran [0x78#8] start).map (fun t => (pack t.flags)) =
      some (0x24#8) := by decide

/-- V120. -/
theorem test_cli :
    (ran [0x58#8] { start with flags := unpack 0x04#8 }).map (fun t => (pack t.flags)) =
      some (0x20#8) := by decide

/-- V121. -/
theorem test_sed :
    (ran [0xF8#8] start).map (fun t => (pack t.flags)) =
      some (0x28#8) := by decide

/-- V122. -/
theorem test_cld :
    (ran [0xD8#8] { start with flags := unpack 0x08#8 }).map (fun t => (pack t.flags)) =
      some (0x20#8) := by decide

/-- V123. -/
theorem test_clv :
    (ran [0xB8#8] { start with flags := unpack 0x40#8 }).map (fun t => (pack t.flags)) =
      some (0x20#8) := by decide

/-- V124. -/
theorem test_nop :
    (ran [0xEA#8]
        { start with a := 0x01#8, x := 0x02#8, y := 0x03#8, flags := unpack 0x81#8 }).map (fun t =>
      (t.a, pack t.flags, t.pc, t.cycles)) =
      some (0x01#8, 0xA1#8, 0x0601#16, some 2) := by decide

/-! ## The error, decoding outside the table, the checks of WellFormed -/

/-- R55: 105 bytes are unassigned, which are the bytes outside R54's table; each is rejected, whatever follows. -/
theorem test_unassigned :
    unassignedBytes.length = 105 ∧ Config.opcodeMap.length = 151 ∧
      unassignedBytes.all (fun b => decode [b, 0x86#8, 0x12#8] == .unassigned b) = true := by decide +kernel

/-- An instruction cut short is no instruction (R50). -/
theorem test_truncated :
    decode [] = .truncated ∧ decode [0x69#8] = .truncated ∧ decode [0x6D#8, 0x34#8] = .truncated := by decide

/-- V125, V126: the error names the byte, `PC` is past it. -/
theorem test_invalid_opcode :
    step (holding [0x02#8]) = .fault (.invalidOpcode 0x02#8 { holding [0x02#8] with pc := 0x0601#16 }) ∧
    step { start with pc := 0xFFFF#16, mem := [(0xFFFF, 0xFF#8)] } =
      .fault (.invalidOpcode 0xFF#8 { start with pc := 0x0000#16, mem := [(0xFFFF, 0xFF#8)] }) := ⟨rfl, rfl⟩

/-- V127, R59: without ADMIT_JMP_BIT the four opcodes are unassigned. -/
theorem test_jmp_bit_not_admitted :
    [0x24#8, 0x2C#8, 0x4C#8, 0x6C#8].all (fun b => (formUnder false b).isNone && (formUnder true b).isSome) = true ∧
      (formUnder false 0x20#8).isSome = true := by decide

/-- WellFormed's two checks: an ill-formed term of each kind is refused, where R59 does not admit the instruction and
where R83's one operand byte does not hold the pointer. -/
theorem test_wellFormed_refuses :
    wellFormedUnder false .one (.bitZp 0x10#8) = false ∧ wellFormedUnder false .one (.bitAbs 0x0200#16) = false ∧
      wellFormedUnder false .one (.jmpAbs 0x1234#16) = false ∧
      wellFormedUnder false .one (.jmpInd 0x0020#16) = false ∧ wellFormedUnder false .one .nop = true ∧
      WellFormed (.jmpInd 0x0100#16) = false ∧ WellFormed (.jmpInd 0x00FF#16) = true ∧
      wellFormedUnder true .two (.jmpInd 0x0100#16) = true := by decide

/-- Decision D10 and 90_conflicts.md C8: with INDIRECT_PTR_BYTES = 2 the indirect JMP has a 16-bit pointer, low byte
first; with 1 it has a zero-page pointer. -/
theorem test_indirect_pointer_bytes :
    (indirectForm .two).complete [0x20#8, 0x03#8, 0xEA#8] = .ok (.jmpInd 0x0320#16) [0xEA#8] ∧
      (indirectForm .one).complete [0x20#8, 0x03#8, 0xEA#8] = .ok (.jmpInd 0x0020#16) [0x03#8, 0xEA#8] ∧
      indirectBytes .two 0x0320#16 = [0x20#8, 0x03#8] ∧ indirectBytes .one 0x0020#16 = [0x20#8] := by decide

/-- R5: the parameters have the values of R5's table. -/
theorem test_parameters :
    (Config.stackBase, Config.brkVector, Config.brkPushes, Config.brkSetsB, Config.brkSetsI, Config.plaSetsNZ) =
      (0x0100#16, 0xFFFE#16, true, true, true, true) ∧
    (Config.indirectPtrBytes.toNat, Config.ptrWrapsInPage, Config.admitJmpBit, Config.invalidOpcodePolicy) =
      (1, false, true, .raise) ∧
    (Config.stackDiscipline.pushDecrementsFirst, Config.stackDiscipline.pullIncrementsFirst,
      Config.stackDiscipline.highByteFirst) = (false, true, true) ∧
    (Config.addressPolicy 0xFFFF, Config.addressPolicy 0x10000, Config.addressPolicy 0x100FE) =
      (0xFFFF#16, 0x0000#16, 0x00FE#16) ∧
    (Config.baseCycles (.ldaAbx 0x1234#16), Config.pagePenalty (.ldaAbx 0x1234#16)) = (4, true) := by decide

/-- The table word of an instruction (bit 0 is bit 0 of the first byte), and one that is shorter than the instruction:
its operand bytes are 0. -/
theorem test_decodeTableWord :
    decodeTableWord 24 0x12346D = some (.adcAbs 0x1234#16) ∧ decodeTableWord 8 0x6D = some (.adcAbs 0x0000#16) ∧
      decodeTableWord 16 0x86B1 = some (.ldaIzy 0x86#8) ∧ decodeTableWord 8 0x02 = none := by decide

/-- The first step after reset runs the placed instruction. -/
theorem test_withFetchWord :
    step (State.reset.withFetchWord 24 0x12344C) = exec (.jmpAbs 0x1234#16) (State.reset.withFetchWord 24 0x12344C) ∧
      (State.reset.withFetchWord 16 0x80A9).mem = [(0, 0xA9#8), (1, 0x80#8)] := ⟨rfl, by decide⟩

/-- R15, S3: the layout of the status byte, one flag at a time. -/
theorem test_pack :
    pack { c := true, z := false, i := true, d := false, b := true, v := false, n := true } = 0xB5#8 ∧
    pack { c := false, z := true, i := false, d := true, b := false, v := true, n := false } = 0x6A#8 := by decide

/-- The canonical form: a write keeps the cells sorted, and writing 0 removes one. -/
theorem test_memory_canonical :
    ((start.place 0x0002#16 [0x05#8]).place 0x0001#16 [0x04#8]).mem = [(1, 0x04#8), (2, 0x05#8)] ∧
      ((start.place 0x0002#16 [0x05#8]).place 0x0002#16 [0x00#8]).mem = [] := by decide

/-! ## A witness for every statement with hypotheses -/

theorem witness_StepRunsDecodedInstruction :
    decode [(holding [0x69#8, 0x01#8]).read 0x0600#16, (holding [0x69#8, 0x01#8]).read 0x0601#16,
      (holding [0x69#8, 0x01#8]).read 0x0602#16] = .ok (.adcImm 0x01#8) [0x00#8] := by decide

theorem witness_DecodeOfEncodeIsTheInstruction :
    WellFormed (.jmpInd 0x00FF#16) = true ∧ WellFormed (.adcAbs 0xFFFF#16) = true ∧ WellFormed .brk = true := by decide

theorem witness_EncodeOfDecodeIsTheBytes : decode [0x6C#8, 0xFF#8, 0x12#8] = .ok (.jmpInd 0x00FF#16) [0x12#8] := by
  decide

theorem witness_WellFormedInstructionsAndTheirLengths :
    (∀ p, (Instr.staAbs 0xFFFF#16).mode ≠ .mem (.ind p)) ∧ (0x00FF#16 : Word).toNat < 256 ∧
      WellFormed (.jmpInd 0x00FF#16) = true :=
  ⟨(by intro p h; cases h), by decide, by decide⟩

/-- A pointer at the end of page 0. -/
theorem witness_PointerModesDereferenceZeroPage :
    WellFormed (.jmpInd 0x00FF#16) = true ∧ (Instr.jmpInd 0x00FF#16).mode = .mem (.ind 0x00FF#16) := by decide

theorem witness_UnassignedOpcodeStepFaults :
    (holding [0x02#8]).read (holding [0x02#8]).pc ∈ unassignedBytes ∧
      (holding [0xFF#8]).read (holding [0xFF#8]).pc ∈ unassignedBytes := by decide

theorem witness_AssignedOpcodeStepCompletes : State.reset.read State.reset.pc ∉ unassignedBytes := by decide

theorem witness_StepKeepsMemoryCanonical :
    (holding [0x48#8]).Inv ∧ (∃ t, step (holding [0x48#8]) = .next t) ∧
      (holding [0x02#8]).Inv ∧ ∃ t, step (holding [0x02#8]) = .fault (.invalidOpcode 0x02#8 t) :=
  ⟨rfl, ⟨_, rfl⟩, rfl, ⟨_, rfl⟩⟩

theorem witness_PlacedInstructionRunsNext :
    State.reset.Inv ∧ decodeTableWord 16 0x0169 = some (.adcImm 0x01#8) ∧ decodeTableWord 8 0x00 = some .brk :=
  ⟨rfl, by decide, by decide⟩

theorem witness_OperandBytesFollowTheOpcode :
    fetch (holding [0x69#8, 0xFF#8]) = some (.adcImm 0xFF#8) ∧ (Instr.adcImm 0xFF#8).mode = .imm 0xFF#8 ∧
    fetch (holding [0xD0#8, 0x80#8]) = some (.bne 0x80#8) ∧ (Instr.bne 0x80#8).mode = .rel 0x80#8 ∧
    fetch (holding [0x65#8, 0xFF#8]) = some (.adcZp 0xFF#8) ∧ (Instr.adcZp 0xFF#8).mode = .mem (.zp 0xFF#8) ∧
    fetch (holding [0x75#8, 0x00#8]) = some (.adcZpx 0x00#8) ∧ (Instr.adcZpx 0x00#8).mode = .mem (.zpx 0x00#8) ∧
    fetch (holding [0xB6#8, 0xFF#8]) = some (.ldxZpy 0xFF#8) ∧ (Instr.ldxZpy 0xFF#8).mode = .mem (.zpy 0xFF#8) ∧
    fetch (holding [0x61#8, 0xFF#8]) = some (.adcIzx 0xFF#8) ∧ (Instr.adcIzx 0xFF#8).mode = .mem (.izx 0xFF#8) ∧
    fetch (holding [0x71#8, 0xFF#8]) = some (.adcIzy 0xFF#8) ∧ (Instr.adcIzy 0xFF#8).mode = .mem (.izy 0xFF#8) ∧
    fetch (holding [0x6C#8, 0xFF#8]) = some (.jmpInd 0x00FF#16) ∧
      (Instr.jmpInd 0x00FF#16).mode = .mem (.ind 0x00FF#16) ∧
    fetch (holding [0x6D#8, 0x34#8, 0x12#8]) = some (.adcAbs 0x1234#16) ∧
      (Instr.adcAbs 0x1234#16).mode = .mem (.abs 0x1234#16) ∧
    fetch (holding [0x7D#8, 0xFF#8, 0xFF#8]) = some (.adcAbx 0xFFFF#16) ∧
      (Instr.adcAbx 0xFFFF#16).mode = .mem (.abx 0xFFFF#16) ∧
    fetch (holding [0x79#8, 0x00#8, 0x00#8]) = some (.adcAby 0x0000#16) ∧
      (Instr.adcAby 0x0000#16).mode = .mem (.aby 0x0000#16) := by decide

theorem witness_ProgramCounterMovesPastTheInstruction :
    (Instr.staAbs 0x0200#16).mnemonic ∉ redirectsPc ∧
      ∃ t, exec (.staAbs 0x0200#16) { start with pc := 0xFFFE#16 } = .next t :=
  ⟨by decide, _, rfl⟩

/-- For both binary statements, and with `D` set for both decimal ones. -/
theorem witness_Adc_and_Sbc :
    (Instr.adcImm 0x01#8).mnemonic = .adc ∧ (Instr.sbcIzy 0xFF#8).mnemonic = .sbc ∧ start.flags.d = false ∧
      (withD true start).flags.d = true := by decide

theorem witness_LogicWritesAccumulatorAndNZ :
    (Instr.andImm 0x01#8).mnemonic = .and ∧ (Instr.oraAbx 0xFFFF#16).mnemonic = .ora ∧
      (Instr.eorIzy 0xFF#8).mnemonic = .eor := by decide

/-- For the shifts and the rotates, in their accumulator and in a memory form. -/
theorem witness_Shifts_and_Rotates :
    start.Inv ∧ Instr.aslAcc.mnemonic = .asl ∧ (Instr.aslAbx 0xFFFF#16).mnemonic = .asl ∧
      Instr.lsrAcc.mnemonic = .lsr ∧
      (Instr.lsrZp 0xFF#8).mnemonic = .lsr ∧ Instr.rolAcc.mnemonic = .rol ∧ (Instr.rolZp 0x00#8).mnemonic = .rol ∧
      Instr.rorAcc.mnemonic = .ror ∧ (Instr.rorZpx 0xFF#8).mnemonic = .ror :=
  ⟨rfl, rfl, rfl, rfl, rfl, rfl, rfl, rfl, rfl⟩

theorem witness_BitTestsMemoryByte :
    (Instr.bitZp 0xFF#8).mnemonic = .bit ∧ (Instr.bitAbs 0xFFFF#16).mnemonic = .bit := by
  decide

theorem witness_ComparesSetCarryAndNZ :
    ((Instr.cmpImm 0x40#8).mnemonic = .cmp ∧ (0x00#8 : Byte) = start.a) ∧
      ((Instr.cpxZp 0x40#8).mnemonic = .cpx ∧ (0x00#8 : Byte) = start.x) ∧
      ((Instr.cpyAbs 0xFFFF#16).mnemonic = .cpy ∧ (0x00#8 : Byte) = start.y) := by decide

theorem witness_IncDecChangeOneMemoryByte :
    start.Inv ∧ (Instr.incZp 0xFF#8).mnemonic = .inc ∧ (Instr.decAbx 0xFFFF#16).mnemonic = .dec :=
  ⟨rfl, rfl, rfl⟩

/-- For the pushes, JSR, BRK, and what comes back from them: `SP` at both ends of its range. -/
theorem witness_Stack : start.Inv ∧ start.sp = 0xFF#8 ∧ State.reset.Inv ∧ State.reset.sp = 0x00#8 :=
  ⟨rfl, rfl, rfl, rfl⟩

theorem witness_LoadsWriteRegisterAndNZ :
    (Instr.ldaImm 0x00#8).mnemonic = .lda ∧ (Instr.ldxZpy 0xFF#8).mnemonic = .ldx ∧
      (Instr.ldyAbx 0xFFFF#16).mnemonic = .ldy := by decide

theorem witness_StoresWriteOneByte :
    start.Inv ∧ ((Instr.staIzy 0xFF#8).mnemonic = .sta ∧ (0x00#8 : Byte) = start.a) ∧
      ((Instr.stxZpy 0xFF#8).mnemonic = .stx ∧ (0x00#8 : Byte) = start.x) ∧
      ((Instr.styAbs 0xFFFF#16).mnemonic = .sty ∧ (0x00#8 : Byte) = start.y) :=
  ⟨rfl, ⟨rfl, rfl⟩, ⟨rfl, rfl⟩, ⟨rfl, rfl⟩⟩

/-- With a page crossing and without. -/
theorem witness_CycleCountIsBasePlusPenalty :
    (∀ off, (Instr.ldaAbx 0x00F0#16).mode ≠ .rel off) ∧
      modeCrossing (.mem (.abx 0x00F0#16)) { start with x := 0x20#8 } = true ∧
      modeCrossing (.mem (.abx 0x00F0#16)) { start with x := 0x01#8 } = false ∧
      ∃ t, exec (.ldaAbx 0x00F0#16) { start with x := 0x20#8 } = .next t :=
  ⟨(by intro off h; cases h), by decide, by decide, _, rfl⟩

theorem witness_StepReportsTwoToSevenCycles :
    (∃ t, step (holding [0xEA#8]) = .next t) ∧ ∃ t, step (holding [0x00#8]) = .next t :=
  ⟨⟨_, rfl⟩, ⟨_, rfl⟩⟩

/-- NOP is in no list; a shift of a memory byte, for the clause about `A`. -/
theorem witness_OnlyListedInstructionsWriteRegisters :
    (∃ t, exec .nop start = .next t) ∧ (∃ t, exec (.aslZp 0xFF#8) start = .next t) ∧
      Instr.nop.mnemonic ∉ shiftMnemonics ∧
      Instr.nop.mnemonic ∉ ([.adc, .sbc, .and, .ora, .eor, .lda, .pla, .txa, .tya] : List Mnemonic) ∧
      (Instr.aslZp 0xFF#8).mnemonic ∉ ([.adc, .sbc, .and, .ora, .eor, .lda, .pla, .txa, .tya] : List Mnemonic) ∧
      (Instr.aslZp 0xFF#8).mnemonic ∈ shiftMnemonics ∧ (Instr.aslZp 0xFF#8).mode ≠ .acc ∧
      Instr.nop.mnemonic ∉ ([.ldx, .tax, .tsx, .inx, .dex] : List Mnemonic) ∧
      Instr.nop.mnemonic ∉ ([.ldy, .tay, .iny, .dey] : List Mnemonic) ∧
      Instr.nop.mnemonic ∉ ([.txs, .pha, .php, .jsr, .brk, .pla, .plp, .rts, .rti] : List Mnemonic) :=
  ⟨⟨_, rfl⟩, ⟨_, rfl⟩, by decide, by decide, by decide, by decide, by decide, by decide, by decide, by decide⟩

/-- STA is in no list. -/
theorem witness_OnlyListedInstructionsWriteFlags :
    (∃ t, exec (.staAbs 0xFFFF#16) start = .next t) ∧
      (Instr.staAbs 0xFFFF#16).mnemonic ∉
        ([.adc, .sbc, .cmp, .cpx, .cpy, .asl, .lsr, .rol, .ror, .sec, .clc, .plp, .rti] : List Mnemonic) ∧
      (Instr.staAbs 0xFFFF#16).mnemonic ∉
        ([.adc, .sbc, .and, .ora, .eor, .bit, .asl, .lsr, .rol, .ror, .cmp, .cpx, .cpy, .inc, .dec, .inx, .dex, .iny,
          .dey, .lda, .ldx, .ldy, .tax, .tay, .txa, .tya, .tsx, .pla, .plp, .rti] : List Mnemonic) ∧
      (Instr.staAbs 0xFFFF#16).mnemonic ∉ ([.sei, .cli, .brk, .plp, .rti] : List Mnemonic) ∧
      (Instr.staAbs 0xFFFF#16).mnemonic ∉ ([.sed, .cld, .plp, .rti] : List Mnemonic) ∧
      (Instr.staAbs 0xFFFF#16).mnemonic ∉ ([.brk, .plp, .rti] : List Mnemonic) ∧
      (Instr.staAbs 0xFFFF#16).mnemonic ∉ ([.adc, .sbc, .bit, .clv, .plp, .rti] : List Mnemonic) :=
  ⟨⟨_, rfl⟩, by decide, by decide, by decide, by decide, by decide, by decide⟩

/-- A shift of `A` for the first clause, a push and the two bytes around the stack page for the second. -/
theorem witness_OnlyListedInstructionsWriteMemory :
    (∃ t, exec .aslAcc start = .next t) ∧
      Instr.aslAcc.mnemonic ∉ ([.sta, .stx, .sty, .inc, .dec, .pha, .php, .jsr, .brk] : List Mnemonic) ∧
      Instr.aslAcc.mnemonic ∈ shiftMnemonics ∧ Instr.aslAcc.mode = .acc ∧
      (∃ t, exec .pha start = .next t) ∧ start.Inv ∧
      Instr.pha.mnemonic ∈ ([.pha, .php, .jsr, .brk] : List Mnemonic) ∧ (0x00FF#16 : Word).toNat < 0x100 ∧
      0x1FF < (0x0200#16 : Word).toNat :=
  ⟨⟨_, rfl⟩, by decide, by decide, by decide, ⟨_, rfl⟩, rfl, by decide, by decide, by decide⟩

/-- LDA reads, pushes and writes none of `I`, `B` and `D`. -/
theorem witness_StoredFlagsMatterOnlyWhereRead :
    (∃ t, exec (.ldaImm 0xFF#8) start = .next t) ∧
      (Instr.ldaImm 0xFF#8).mnemonic ∉ ([.sei, .cli, .php, .plp, .brk, .rti] : List Mnemonic) ∧
      (Instr.ldaImm 0xFF#8).mnemonic ∉ ([.php, .plp, .brk, .rti] : List Mnemonic) ∧
      (Instr.ldaImm 0xFF#8).mnemonic ∉ ([.adc, .sbc, .sed, .cld, .php, .plp, .brk, .rti] : List Mnemonic) :=
  ⟨⟨_, rfl⟩, by decide, by decide, by decide⟩

theorem witness_StoreIsSeenByTheNextFetch :
    (holding [0x8D#8, 0x03#8, 0x06#8]).Inv ∧
      fetch (holding [0x8D#8, 0x03#8, 0x06#8]) = some (.staAbs ((holding [0x8D#8, 0x03#8, 0x06#8]).pc + 3)) :=
  ⟨rfl, by decide⟩

end Sys2Proof.Tests
end

section
/-! ### The family `10_state`: what an instruction can change, the status byte, the placed instruction, the transient
state -/

namespace Sys2Proof.Machine

open Sys2Proof.Claims

/-! ### What an instruction can do -/

/-- JSR runs its effect on the absolute address it carries. -/
theorem exec_of_absolute {i : Instr} {f : Word → State → State} (h : effectOf i.mnemonic = onAbsolute f) :
    ∃ a : Word, i.mode = .mem (.abs a) ∧ ∀ s, exec i s = run i (f a) s := by
  obtain ⟨e, he, hx⟩ := exec_effect i
  rw [h] at he
  cases hm : i.mode with
  | mem m => cases m <;> rw [hm] at he <;> cases he; exact ⟨_, rfl, hx⟩
  | _ => rw [hm] at he; cases he

/-- The ways in which an instruction changes the state it was entered in, each with the mnemonics that do so:
`Transition md s m t` says that an instruction of mnemonic `m` in mode `md` may leave `t`, but for the cycle count. -/
inductive Transition (md : Mode) (s : State) : Mnemonic → State → Prop where
  /-- The adders. -/
  | accumulate {m} (out : AluOut) (n : Byte) : m ∈ [.adc, .sbc] → Transition md s m (accumulate out n s)
  /-- `A` with `N` and `Z`. -/
  | loadA {m} (r : Byte) : m ∈ [.and, .ora, .eor, .lda, .txa, .tya] → Transition md s m (s.loadA r)
  /-- `X` with `N` and `Z`. -/
  | loadX {m} (r : Byte) : m ∈ [.ldx, .tax, .tsx, .inx, .dex] → Transition md s m ((s.setX r).setNZ r)
  /-- `Y` with `N` and `Z`. -/
  | loadY {m} (r : Byte) : m ∈ [.ldy, .tay, .iny, .dey] → Transition md s m ((s.setY r).setNZ r)
  /-- `C`, `N` and `Z`. -/
  | compare {m} (reg : Byte) (src : Source) :
      m ∈ [.cmp, .cpx, .cpy] → Transition md s m (compareWith reg src s)
  /-- `Z`, `N` and `V`. -/
  | bit (src : Source) : Transition md s .bit (bitTest src s)
  /-- The operand of the mode, with `C`, `N` and `Z`. -/
  | shift {m} (tg : Target) (r : Byte) (out : Bool) :
      m ∈ shiftMnemonics → md = tg.mode → Transition md s m (storeShift tg r out s)
  /-- One byte of memory. -/
  | store {m} (ea : Word) (v : Byte) : m ∈ [.sta, .stx, .sty] → Transition md s m (s.write ea v)
  /-- One byte of memory, with `N` and `Z`. -/
  | count {m} (d : Byte) (mm : MemMode) : m ∈ [.inc, .dec] → Transition md s m (addToMemory d mm s)
  /-- `C`. -/
  | carry {m} (p : Bool) : m ∈ [.sec, .clc] → Transition md s m (s.setFlags { s.flags with c := p })
  /-- `I`. -/
  | interrupt {m} (p : Bool) : m ∈ [.sei, .cli] → Transition md s m (s.setFlags { s.flags with i := p })
  /-- `D`. -/
  | decimal {m} (p : Bool) : m ∈ [.sed, .cld] → Transition md s m (s.setFlags { s.flags with d := p })
  /-- `V`. -/
  | overflow : Transition md s .clv (clv s)
  /-- Nothing. -/
  | nothing : Transition md s .nop s
  /-- `PC`; a branch that is not taken leaves `PC` as it was entered with. -/
  | goTo {m} (pc : Word) :
      m ∈ [.jmp, .bcc, .bcs, .beq, .bne, .bmi, .bpl, .bvc, .bvs] → Transition md s m (s.setPc pc)
  /-- `SP`. -/
  | txs : Transition md s .txs (txs s)
  /-- A byte of the stack, and `SP`. -/
  | push {m} (v : Byte) : m ∈ [.pha, .php] → Transition md s m (s.push v)
  /-- `A`, `N`, `Z` and `SP`. -/
  | pla : Transition md s .pla (pla s)
  /-- All flags, and `SP`. -/
  | plp : Transition md s .plp (plp s)
  /-- Two bytes of the stack, `SP` and `PC`. -/
  | jsr (addr : Word) : Transition md s .jsr (jsr addr s)
  /-- `SP` and `PC`. -/
  | rts : Transition md s .rts (rts s)
  /-- Three bytes of the stack, `SP`, `B`, `I` and `PC`. -/
  | brk : Transition md s .brk s.takeBreak
  /-- All flags, `SP` and `PC`. -/
  | rti : Transition md s .rti s.returnFromInterrupt

/-- An instruction that runs an effect leaves what the effect leaves. -/
theorem transition_of_run {i : Instr} {m : Mnemonic} {f : State → State} {s t : State}
    (hx : ∀ s, exec i s = run i f s) (h : exec i s = .next t)
    (hf : Transition i.mode (enter i s) m (f (enter i s))) :
    ∃ u k, Transition i.mode (enter i s) m u ∧ t = u.setCycles k := by
  rw [hx, run_eq] at h
  cases h
  exact ⟨_, _, hf, rfl⟩

/-- The same for a one-byte instruction without operand. -/
theorem transition_of_nothing {i : Instr} {m : Mnemonic} {f : State → State} {s t : State}
    (hi : effectOf i.mnemonic = onNothing f) (h : exec i s = .next t)
    (hf : Transition i.mode (enter i s) m (f (enter i s))) :
    ∃ u k, Transition i.mode (enter i s) m u ∧ t = u.setCycles k :=
  transition_of_run (exec_of_nothing hi).2 h hf

/-- What an instruction can do, said once: the entered state changed in the way of its mnemonic, and a count. -/
theorem exec_next {i : Instr} {s t : State} (h : exec i s = .next t) :
    ∃ u k, Transition i.mode (enter i s) i.mnemonic u ∧ t = u.setCycles k := by
  cases hm : i.mnemonic with
  | adc =>
    obtain ⟨src, -, hx⟩ := exec_of_source (congrArg effectOf hm)
    obtain ⟨out, n, e⟩ := adc_accumulates src (enter i s)
    exact transition_of_run hx h (e ▸ .accumulate out n (by decide))
  | sbc =>
    obtain ⟨src, -, hx⟩ := exec_of_source (congrArg effectOf hm)
    obtain ⟨out, n, e⟩ := sbc_accumulates src (enter i s)
    exact transition_of_run hx h (e ▸ .accumulate out n (by decide))
  | and | ora | eor | lda =>
    obtain ⟨_, -, hx⟩ := exec_of_source (congrArg effectOf hm)
    exact transition_of_run hx h (.loadA _ (by decide))
  | ldx =>
    obtain ⟨_, -, hx⟩ := exec_of_source (congrArg effectOf hm)
    exact transition_of_run hx h (.loadX _ (by decide))
  | ldy =>
    obtain ⟨_, -, hx⟩ := exec_of_source (congrArg effectOf hm)
    exact transition_of_run hx h (.loadY _ (by decide))
  | cmp | cpx | cpy =>
    obtain ⟨_, -, hx⟩ := exec_of_source (congrArg effectOf hm)
    exact transition_of_run hx h (.compare _ _ (by decide))
  | bit =>
    obtain ⟨_, -, hx⟩ := exec_of_source (congrArg effectOf hm)
    exact transition_of_run hx h (.bit _)
  | asl | lsr | rol | ror =>
    obtain ⟨_, hmode, hx⟩ := exec_of_target (congrArg effectOf hm)
    exact transition_of_run hx h (.shift _ _ _ (by decide) hmode)
  | sta | stx | sty =>
    obtain ⟨_, -, hx⟩ := exec_of_memory (congrArg effectOf hm)
    exact transition_of_run hx h (.store _ _ (by decide))
  | inc | dec =>
    obtain ⟨_, -, hx⟩ := exec_of_memory (congrArg effectOf hm)
    exact transition_of_run hx h (.count _ _ (by decide))
  | jmp =>
    obtain ⟨_, -, hx⟩ := exec_of_memory (congrArg effectOf hm)
    exact transition_of_run hx h (.goTo _ (by decide))
  | bcc | bcs | beq | bne | bmi | bpl | bvc | bvs =>
    obtain ⟨_, -, hx⟩ := exec_of_offset (congrArg effectOf hm)
    obtain ⟨pc, k, rfl⟩ := branch_next ((hx s).symm.trans h)
    exact ⟨_, k, .goTo pc (by decide), rfl⟩
  | jsr =>
    obtain ⟨addr, -, hx⟩ := exec_of_absolute (congrArg effectOf hm)
    exact transition_of_run hx h (.jsr addr)
  | txa | tya => exact transition_of_nothing (congrArg effectOf hm) h (.loadA _ (by decide))
  | tax | tsx | inx | dex => exact transition_of_nothing (congrArg effectOf hm) h (.loadX _ (by decide))
  | tay | iny | dey => exact transition_of_nothing (congrArg effectOf hm) h (.loadY _ (by decide))
  | sec | clc => exact transition_of_nothing (congrArg effectOf hm) h (.carry _ (by decide))
  | sei | cli => exact transition_of_nothing (congrArg effectOf hm) h (.interrupt _ (by decide))
  | sed | cld => exact transition_of_nothing (congrArg effectOf hm) h (.decimal _ (by decide))
  | clv => exact transition_of_nothing (congrArg effectOf hm) h .overflow
  | nop => exact transition_of_nothing (congrArg effectOf hm) h .nothing
  | txs => exact transition_of_nothing (congrArg effectOf hm) h .txs
  | pha | php => exact transition_of_nothing (congrArg effectOf hm) h (.push _ (by decide))
  | pla => exact transition_of_nothing (congrArg effectOf hm) h .pla
  | plp => exact transition_of_nothing (congrArg effectOf hm) h .plp
  | rts => exact transition_of_nothing (congrArg effectOf hm) h .rts
  | brk => exact transition_of_nothing (congrArg effectOf hm) h .brk
  | rti => exact transition_of_nothing (congrArg effectOf hm) h .rti

/-! ### What each transition leaves unchanged

The transitions that write the field are named first, and the list of R13, R21 or R22 rules them out; every other one
is made of setters of other fields. -/

section
variable {md : Mode} {m : Mnemonic} {s t : State}

theorem Transition.pc_eq (h : Transition md s m t) (hm : m ∉ redirectsPc) : t.pc = s.pc := by
  cases h with
  | goTo | jsr | rts | brk | rti => simp_all [redirectsPc]
  | shift tg => cases tg <;> rfl
  | _ => rfl

theorem Transition.a_eq (h : Transition md s m t)
    (hm : m ∉ [.adc, .sbc, .and, .ora, .eor, .lda, .pla, .txa, .tya]) (hacc : m ∈ shiftMnemonics → md ≠ .acc) :
    t.a = s.a := by
  cases h with
  | accumulate | loadA | pla => simp_all
  | shift tg _ _ hw hmd =>
    cases tg with
    | acc => exact absurd hmd (hacc hw)
    | mem => rfl
  | _ => rfl

theorem Transition.x_eq (h : Transition md s m t) (hm : m ∉ [.ldx, .tax, .tsx, .inx, .dex]) : t.x = s.x := by
  cases h with
  | loadX => simp_all
  | shift tg => cases tg <;> rfl
  | _ => rfl

theorem Transition.y_eq (h : Transition md s m t) (hm : m ∉ [.ldy, .tay, .iny, .dey]) : t.y = s.y := by
  cases h with
  | loadY => simp_all
  | shift tg => cases tg <;> rfl
  | _ => rfl

theorem Transition.sp_eq (h : Transition md s m t)
    (hm : m ∉ [.txs, .pha, .php, .jsr, .brk, .pla, .plp, .rts, .rti]) : t.sp = s.sp := by
  cases h with
  | txs | push | jsr | brk | pla | plp | rts | rti => simp_all
  | shift tg => cases tg <;> rfl
  | _ => rfl

theorem Transition.c_eq (h : Transition md s m t)
    (hm : m ∉ [.adc, .sbc, .cmp, .cpx, .cpy, .asl, .lsr, .rol, .ror, .sec, .clc, .plp, .rti]) :
    t.flags.c = s.flags.c := by
  cases h with
  | accumulate | compare | shift | carry | plp | rti => simp_all [shiftMnemonics]
  | _ => rfl

theorem Transition.zn_eq (h : Transition md s m t)
    (hm : m ∉ [.adc, .sbc, .and, .ora, .eor, .bit, .asl, .lsr, .rol, .ror, .cmp, .cpx, .cpy, .inc, .dec, .inx, .dex,
      .iny, .dey, .lda, .ldx, .ldy, .tax, .tay, .txa, .tya, .tsx, .pla, .plp, .rti]) :
    t.flags.z = s.flags.z ∧ t.flags.n = s.flags.n := by
  cases h with
  | accumulate | loadA | loadX | loadY | compare | bit | shift | count | pla | plp | rti => simp_all [shiftMnemonics]
  | _ => exact ⟨rfl, rfl⟩

theorem Transition.i_eq (h : Transition md s m t) (hm : m ∉ [.sei, .cli, .brk, .plp, .rti]) :
    t.flags.i = s.flags.i := by
  cases h with
  | interrupt | brk | plp | rti => simp_all
  | _ => rfl

theorem Transition.d_eq (h : Transition md s m t) (hm : m ∉ [.sed, .cld, .plp, .rti]) : t.flags.d = s.flags.d := by
  cases h with
  | decimal | plp | rti => simp_all
  | _ => rfl

theorem Transition.b_eq (h : Transition md s m t) (hm : m ∉ [.brk, .plp, .rti]) : t.flags.b = s.flags.b := by
  cases h with
  | brk | plp | rti => simp_all
  | _ => rfl

theorem Transition.v_eq (h : Transition md s m t) (hm : m ∉ [.adc, .sbc, .bit, .clv, .plp, .rti]) :
    t.flags.v = s.flags.v := by
  cases h with
  | accumulate | bit | overflow | plp | rti => simp_all
  | _ => rfl

end

/-! ### The status byte -/

/-- Unpacking takes back the seven flags that packing laid out: the 128 combinations of R17. -/
@[simp] theorem unpack_pack (f : Flags) : unpack (pack f) = f := by
  obtain ⟨c, z, i, d, b, v, n⟩ := f
  revert c z i d b v n
  decide

/-- Packing what was unpacked gives every bit back, but for bit 5, which is always 1. -/
theorem pack_unpack (p : Byte) : pack (unpack p) = p ||| 0x20#8 := by
  revert p; decide

/-- The shifted flag bits of R15 add up to the number with the flags' weights. -/
theorem pack_eq_statusByte (f : Flags) : pack f = statusByte f := by
  obtain ⟨c, z, i, d, b, v, n⟩ := f
  revert c z i d b v n
  decide

/-! ### The placed instruction -/

/-- Three bytes placed at `PC` are the window that fetch decodes: the three addresses differ, mod 65536. -/
theorem fetch_place {s : State} (h : s.Inv) (b0 b1 b2 : Byte) :
    fetch (s.place s.pc [b0, b1, b2]) = decodeWindow b0 b1 b2 := by
  have hwf (bs : List Byte) : (s.place s.pc bs).mem.wf = true := State.place_wf h s.pc bs
  have h01 : s.pc ≠ s.pc + 1 := by bv_omega
  have h02 : s.pc ≠ s.pc + 1 + 1 := by bv_omega
  have h12 : s.pc + 1 ≠ s.pc + 1 + 1 := by bv_omega
  have h2 : s.pc + 2 = s.pc + 1 + 1 := by bv_omega
  have read0 := State.read_write (hwf []) s.pc
  have read1 := State.read_write (hwf [b0]) (s.pc + 1)
  have read2 := State.read_write (hwf [b0, b1]) (s.pc + 1 + 1)
  simp only [State.place] at read0 read1 read2
  simp only [fetch, State.place, State.write_pc, h2, read0, read1, read2, if_neg h01, if_neg h02, if_neg h12, if_true]

/-! ### The transient state -/

@[simp] theorem resolve_setCycles (m : MemMode) (s : State) (k : Option Nat) :
    resolve m (s.setCycles k) = resolve m s := resolve_congr m rfl rfl rfl

@[simp] theorem sourceByte_setCycles (src : Source) (s : State) (k : Option Nat) :
    sourceByte src (s.setCycles k) = sourceByte src s := by
  cases src <;> simp [sourceByte]

@[simp] theorem enter_setCycles (i : Instr) (s : State) (k : Option Nat) :
    enter i (s.setCycles k) = (enter i s).setCycles k := by
  unfold enter
  cases i.mode with
  | mem m => cases m <;> rfl
  | _ => rfl

/-- An instruction whose effect does not look at `cycles` overwrites it. -/
theorem exec_setCycles_of_run {i : Instr} {f : State → State} {k : Option Nat} (hx : ∀ s, exec i s = run i f s)
    (hf : ∀ s : State, f (s.setCycles k) = (f s).setCycles k) (s : State) : exec i (s.setCycles k) = exec i s := by
  rw [hx, hx, run_eq, run_eq, enter_setCycles, hf]
  rfl

/-- No instruction looks at the count of an earlier step. -/
theorem exec_setCycles (i : Instr) (s : State) (k : Option Nat) : exec i (s.setCycles k) = exec i s := by
  cases hm : i.mnemonic with
  | adc | sbc =>
    obtain ⟨src, -, hx⟩ := exec_of_source (congrArg effectOf hm)
    refine exec_setCycles_of_run hx (fun s => ?_) s
    simp only [adc, sbc, sourceByte_setCycles, State.setCycles_flags, State.setCycles_a]
    split <;> rfl
  | and | ora | eor | bit | cmp | cpx | cpy | lda | ldx | ldy =>
    obtain ⟨src, -, hx⟩ := exec_of_source (congrArg effectOf hm)
    refine exec_setCycles_of_run hx (fun s => ?_) s
    simp only [andA, oraA, eorA, bitTest, cmp, cpx, cpy, compareWith, lda, ldx, ldy, sourceByte_setCycles]
    rfl
  | asl | lsr | rol | ror =>
    obtain ⟨tg, -, hx⟩ := exec_of_target (congrArg effectOf hm)
    refine exec_setCycles_of_run hx (fun s => ?_) s
    cases tg with
    | acc => rfl
    | mem m =>
      simp only [asl, lsr, rol, ror, storeShift, targetByte, targetPut, resolve_setCycles]
      rfl
  | sta | stx | sty | inc | dec | jmp =>
    obtain ⟨m, -, hx⟩ := exec_of_memory (congrArg effectOf hm)
    refine exec_setCycles_of_run hx (fun s => ?_) s
    simp only [sta, stx, sty, inc, dec, addToMemory, jump, resolve_setCycles]
    rfl
  | bcc | bcs | beq | bne | bmi | bpl | bvc | bvs =>
    obtain ⟨off, -, hx⟩ := exec_of_offset (congrArg effectOf hm)
    rw [hx, hx, branch, branch, enter_setCycles]
    rfl
  | jsr =>
    obtain ⟨addr, -, hx⟩ := exec_of_absolute (congrArg effectOf hm)
    refine exec_setCycles_of_run hx (fun _ => ?_) s
    rfl
  | _ =>
    obtain ⟨-, hx⟩ := exec_of_nothing (congrArg effectOf hm)
    refine exec_setCycles_of_run hx (fun _ => ?_) s
    rfl

/-- Entering clears `page_crossed` first, and both ways of running begin by entering: no instruction looks at that of
an earlier step. -/
theorem exec_setPageCrossed (i : Instr) (s : State) (p : Bool) : exec i (s.setPageCrossed p) = exec i s := by
  obtain ⟨e, -, hx⟩ := exec_effect i
  rw [hx, hx]
  cases e <;> rfl

end Sys2Proof.Machine

/-! ### The obligations -/

section
open Sys2Proof Sys2Proof.Machine Sys2Proof.Claims

/-- Settles O13: fetching takes back the three bytes that the host placed. -/
theorem placedInstructionRunsNext : Obligations.PlacedInstructionRunsNext :=
  fun _ _ _ _ hs hw => step_of_fetch ((fetch_place hs _ _ _).trans hw)

/-- Settles O22: the frame has moved `PC` past the instruction, and its transition leaves `PC` there. -/
theorem programCounterMovesPastTheInstruction : Obligations.ProgramCounterMovesPastTheInstruction := by
  intro i s t hm h
  obtain ⟨u, k, hu, rfl⟩ := exec_next h
  exact hu.pc_eq hm

/-- Settles O55: the window at `PC` is the same, entering clears `page_crossed`, and the new count replaces the old. -/
theorem transientStateInfluencesNothing : Obligations.TransientStateInfluencesNothing := by
  intro s p k
  change step ((s.setPageCrossed p).setCycles k) = step s
  have hfetch : fetch ((s.setPageCrossed p).setCycles k) = fetch s := rfl
  unfold step
  rw [hfetch]
  cases fetch s with
  | some i => exact (exec_setCycles i _ k).trans (exec_setPageCrossed i s p)
  | none => rfl

/-- Settles O56: each register is one that only the listed transitions write. -/
theorem onlyListedInstructionsWriteRegisters : Obligations.OnlyListedInstructionsWriteRegisters := by
  intro i s t h
  obtain ⟨u, k, hu, rfl⟩ := exec_next h
  exact ⟨hu.a_eq, hu.x_eq, hu.y_eq, hu.sp_eq⟩

/-- Settles O57: each flag is one that only the listed transitions write. -/
theorem onlyListedInstructionsWriteFlags : Obligations.OnlyListedInstructionsWriteFlags := by
  intro i s t h
  obtain ⟨u, k, hu, rfl⟩ := exec_next h
  exact ⟨hu.c_eq, hu.zn_eq, hu.i_eq, hu.d_eq, hu.b_eq, hu.v_eq⟩

/-- Settles O14: packing is checked on the 128 combinations of flags; unpacking tests the bits of the same number. -/
theorem statusByteLayout : Obligations.StatusByteLayout := ⟨pack_eq_statusByte, fun _ => rfl⟩

/-- Settles O15: the two round trips of R17. -/
theorem statusByteRoundTrips : Obligations.StatusByteRoundTrips := ⟨unpack_pack, pack_unpack⟩

end
end

section
/-! ### The family `20_memory`: the bytes an instruction is fetched from, who writes memory, a store before a fetch -/

namespace Sys2Proof

/-! ### What the decoder answers is encoded by the bytes it read -/

/-- The form `f` makes only well-formed instructions, encoded by the opcode byte `op` and then by the operand bytes that
`f` waits for, in ascending order. -/
def Form.Encodes (op : Byte) : Form → Prop
  | .bare i => encode i = [op] ∧ WellFormed i = true
  | .byte g => ∀ b, encode (g b) = [op, b] ∧ WellFormed (g b) = true
  | .word g => ∀ a, encode (g a) = [op, loByte a, hiByte a] ∧ WellFormed (g a) = true

/-- The indirect JMP waits for one byte of pointer (R51). -/
theorem indirectForm_encodes : (indirectForm Config.indirectPtrBytes).Encodes 0x6C#8 :=
  fun b => ⟨encode_jmpInd_byte b, wellFormed_jmpInd_byte b⟩

/-- The decoder's table agrees with the encoder's, row by row (R54). -/
theorem opcodeMap_encodes : ∀ row ∈ Config.opcodeMap, row.2.Encodes row.1 := by
  simp only [Config.opcodeMap, opRows0, opRows1, opRows2, opRows3, opRows4, opRows5, opRows6, opRows7, opRows8, opRows9,
    opRowsA, opRowsB, opRowsC, opRowsD, opRowsE, opRowsF, List.forall_mem_append, List.forall_mem_cons,
    List.not_mem_nil, false_implies, implies_true, and_true, indirectForm_encodes, true_and]
  and_intros
  any_goals rfl
  all_goals exact fun _ => ⟨rfl, rfl⟩

/-- What an opcode byte stands for is encoded with that byte first. -/
theorem formOf_encodes {op : Byte} {f : Form} (h : formOf op = some f) : f.Encodes op := by
  rw [formOf_eq, List.lookup_eq_some_iff] at h
  obtain ⟨l₁, l₂, hmap, -⟩ := h
  exact opcodeMap_encodes (op, f) (by simp [hmap])

/-- A form takes its operand bytes from the front: with the opcode byte before them they encode the instruction. -/
theorem Form.encode_of_complete {op : Byte} {f : Form} (hf : f.Encodes op) {bs rest : List Byte} {i : Instr}
    (h : f.complete bs = .ok i rest) : encode i ++ rest = op :: bs ∧ WellFormed i = true := by
  cases f with
  | bare =>
    rw [complete_bare] at h
    cases h
    exact ⟨by simp [hf.1], hf.2⟩
  | byte g =>
    match bs, h with
    | b :: _, rfl => exact ⟨by simp [(hf b).1], (hf b).2⟩
  | word g =>
    match bs, h with
    | lo :: hi :: _, rfl => exact ⟨by simp [(hf (pair hi lo)).1], (hf (pair hi lo)).2⟩

/-- What the decoder answers is well-formed, and its encoding and the rest are the bytes that were decoded. -/
theorem encode_of_decode {bs rest : List Byte} {i : Instr} (h : decode bs = .ok i rest) :
    encode i ++ rest = bs ∧ WellFormed i = true := by
  cases bs with
  | nil => cases h
  | cons op operand =>
    cases hf : formOf op with
    | none => simp [decode, hf] at h
    | some f => exact Form.encode_of_complete (formOf_encodes hf) (by simpa [decode, hf] using h)

/-- The same for a window of three bytes. -/
theorem encode_of_decodeWindow {b0 b1 b2 : Byte} {i : Instr} (h : decodeWindow b0 b1 b2 = some i) :
    (∃ rest, encode i ++ rest = [b0, b1, b2]) ∧ WellFormed i = true := by
  cases hd : decode [b0, b1, b2] with
  | ok j rest =>
    simp only [decodeWindow, hd, Option.some.injEq] at h
    subst h
    obtain ⟨henc, hwf⟩ := encode_of_decode hd
    exact ⟨⟨rest, henc⟩, hwf⟩
  | _ => simp [decodeWindow, hd] at h

/-- The one instruction in the indirect mode is JMP. -/
theorem eq_jmpInd_of_mode {i : Instr} {p : Word} (h : i.mode = .mem (.ind p)) : i = .jmpInd p := by
  cases i <;> cases h
  rfl

/-- The pointer of a well-formed indirect JMP is its one operand byte (R51, R83). -/
theorem loByte_toNat_of_mode_ind {i : Instr} {p : Word} (hwf : WellFormed i = true) (h : i.mode = .mem (.ind p)) :
    (loByte p).toNat = p.toNat := by
  rw [eq_jmpInd_of_mode h, wellFormed_jmpInd] at hwf
  rw [loByte_toNat, Nat.mod_eq_of_lt hwf]

end Sys2Proof

namespace Sys2Proof.Machine

open Sys2Proof.Claims

/-- The statements' 16-bit value of two bytes is the model's concatenation (R6). -/
theorem word_eq_pair (hi lo : Byte) : word hi lo = pair hi lo := by
  rw [word, ← pair_toNat, BitVec.ofNat_toNat, BitVec.setWidth_eq]

/-! ### Who writes memory -/

/-- The transitions that write memory are those of R33's table; every other one is made of setters of registers and
flags. -/
theorem Transition.mem_eq {md : Mode} {m : Mnemonic} {s t : State} (h : Transition md s m t)
    (hm : m ∉ [.sta, .stx, .sty, .inc, .dec, .pha, .php, .jsr, .brk]) (hacc : m ∈ shiftMnemonics → md = .acc) :
    t.mem = s.mem := by
  cases h with
  | store | count | push | jsr | brk => simp_all
  | shift tg _ _ hw hmd =>
    cases tg with
    | acc => rfl
    | mem => exact nomatch hmd.symm.trans (hacc hw)
  | _ => rfl

/-- The trap entry leaves in memory the return address and the status byte, with `B` set, that it pushed (R163). -/
theorem State.takeBreak_mem (s : State) :
    s.takeBreak.mem = ((s.pushWord (s.pc + 1)).push (pack { s.flags with b := true })).mem := rfl

section
variable {s t : State} {b : Word} (hwf : s.mem.wf = true) (hb : b.toNat < 0x100 ∨ 0x1FF < b.toNat)
include hb

/-- An address off page 1 is no stack address. -/
theorem ne_stackAddress (sp : Byte) : b ≠ stackAddress sp := by
  rintro rfl
  have := sp.isLt
  rw [stackAddress_toNat] at hb
  omega

include hwf

/-- A push changes nothing off the stack page. -/
theorem State.push_read_off_stack (v : Byte) : (s.push v).read b = s.read b := by
  rw [State.push_read hwf, if_neg (ne_stackAddress hb _)]

/-- Two pushes change nothing off the stack page. -/
theorem State.pushWord_read_off_stack (w : Word) : (s.pushWord w).read b = s.read b := by
  rw [State.pushWord_read hwf, if_neg (ne_stackAddress hb _), if_neg (ne_stackAddress hb _)]

/-- The trap entry changes nothing off the stack page. -/
theorem State.takeBreak_read_off_stack : s.takeBreak.read b = s.read b := by
  rw [State.read, State.takeBreak_mem]
  exact (State.push_read_off_stack (State.pushWord_wf hwf _) hb _).trans (State.pushWord_read_off_stack hwf hb _)

/-- The pushing instructions change nothing off the stack page; every other transition is one of other mnemonics. -/
theorem Transition.read_off_stack {md : Mode} {m : Mnemonic} (h : Transition md s m t)
    (hm : m ∈ [.pha, .php, .jsr, .brk]) : t.read b = s.read b := by
  cases h with
  | push v => exact State.push_read_off_stack hwf hb v
  | jsr => exact State.pushWord_read_off_stack hwf hb _
  | brk => exact State.takeBreak_read_off_stack hwf hb
  | _ => grind [shiftMnemonics]

end

/-! ### A store before a fetch -/

/-- STA absolute writes `A` at its address (R173, R80). -/
theorem exec_staAbs (addr : Word) (s : State) :
    exec (.staAbs addr) s = run (.staAbs addr) (fun u => u.write addr u.a) s := rfl

/-- A store at `PC` replaces the opcode byte of the window that fetch decodes, and keeps the two bytes after it. -/
theorem fetch_write_pc {s : State} (h : s.Inv) (v : Byte) :
    fetch (s.write s.pc v) = decodeWindow v (s.read (s.pc + 1)) (s.read (s.pc + 2)) := by
  have h1 : s.pc + 1 ≠ s.pc := by bv_omega
  have h2 : s.pc + 2 ≠ s.pc := by bv_omega
  simp only [fetch, State.write_pc, State.read_write h, if_neg h1, if_neg h2, if_true]

end Sys2Proof.Machine

/-! ### The obligations -/

section
open Sys2Proof Sys2Proof.Machine Sys2Proof.Claims

/-- Settles O21: the decoder answers an instruction that the window's first bytes encode; in each mode the operand is
read off the encoder's operand bytes. -/
theorem operandBytesFollowTheOpcode : Obligations.OperandBytesFollowTheOpcode := by
  intro s i h
  obtain ⟨⟨rest, henc⟩, hwf⟩ := encode_of_decodeWindow h
  have hoperand : i.mode.bytes ++ rest = [s.read (s.pc + 1), s.read (s.pc + 2)] := (List.cons.inj henc).2
  have hfirst {v : Byte} {vs : List Byte} (hb : i.mode.bytes = v :: vs) : v = s.read (s.pc + 1) := by
    rw [hb] at hoperand
    exact (List.cons.inj hoperand).1
  have hword {addr : Word} (hb : i.mode.bytes = [loByte addr, hiByte addr]) :
      addr = word (s.read (s.pc + 2)) (s.read (s.pc + 1)) := by
    rw [hb] at hoperand
    obtain ⟨hlo, hrest⟩ := List.cons.inj hoperand
    rw [word_eq_pair, ← hlo, ← (List.cons.inj hrest).1, pair_bytes]
  refine ⟨?_, fun _ hm => hfirst (congrArg Mode.bytes hm), fun _ hm => hfirst (congrArg Mode.bytes hm), ?_, ?_, ?_, ?_⟩
  · rw [← henc, ← (Laws.encoding_holds i).1, List.take_left]
  · rintro z (hm | hm | hm) <;> exact hfirst (congrArg Mode.bytes hm)
  · rintro p (hm | hm) <;> exact hfirst (congrArg Mode.bytes hm)
  · intro p hm
    rw [← loByte_toNat_of_mode_ind hwf hm, hfirst (congrArg Mode.bytes hm)]
  · rintro addr (hm | hm | hm) <;> exact hword (congrArg Mode.bytes hm)

/-- Settles O58: memory is a field that only the listed transitions write, and a push lands on the stack page. -/
theorem onlyListedInstructionsWriteMemory : Obligations.OnlyListedInstructionsWriteMemory := by
  intro i s t h
  obtain ⟨u, k, hu, rfl⟩ := exec_next h
  constructor
  · intro hm hacc b
    exact congrArg (Memory.read · b) (hu.mem_eq hm hacc)
  · intro hs hm b hb
    exact (Transition.read_off_stack hs hb hu hm : u.read b = (enter i s).read b)

/-- Settles O60: STA ends with `PC` at the byte it wrote, so that byte is the opcode the next step fetches. -/
theorem storeIsSeenByTheNextFetch : Obligations.StoreIsSeenByTheNextFetch := by
  intro s hs h
  refine ⟨_, (step_of_fetch h).trans (exec_staAbs _ s), ?_⟩
  have h4 : s.pc + 4 = s.pc + 3 + 1 := by bv_omega
  have h5 : s.pc + 5 = s.pc + 3 + 2 := by bv_omega
  rw [h4, h5]
  exact fetch_write_pc (s := enter (.staAbs (s.pc + 3)) s) hs s.a

end
end

section
/-! ### The family `30_encoding`: the bytes the decoder rejects, sample words, lengths, the page-penalty marks -/

namespace Sys2Proof

open Sys2Proof.Claims

/-! ### The bytes the decoder rejects -/

/-- An assigned byte is never rejected: the worst its form answers is that the bytes end too soon. -/
theorem Form.complete_ne_unassigned (f : Form) (bs : List Byte) (op : Byte) : f.complete bs ≠ .unassigned op := by
  fun_cases Form.complete f bs <;> nofun

/-- The decoder rejects a byte exactly where no row of the table is its own (R53, R55). -/
theorem decode_eq_unassigned_iff {op : Byte} {rest : List Byte} :
    decode (op :: rest) = .unassigned op ↔ formOf op = none := by
  cases hf : formOf op with
  | none => simp [decode, hf]
  | some f => simp [decode, hf, f.complete_ne_unassigned]

/-- A list of bytes as one number, which has bit `b` set for each byte `b` of the list: two lists are compared by
comparing their numbers, in time linear in their lengths. -/
def byteSet (bytes : List Byte) : Nat := bytes.foldr (fun b n => 2 ^ b.toNat ||| n) 0

theorem testBit_byteSet (bytes : List Byte) (op : Byte) : (byteSet bytes).testBit op.toNat = decide (op ∈ bytes) := by
  induction bytes with
  | nil => simp [byteSet]
  | cons b bytes ih =>
    have hb : b.toNat = op.toNat ↔ op = b := by rw [BitVec.toNat_inj, eq_comm]
    change (2 ^ b.toNat ||| byteSet bytes).testBit op.toNat = _
    simp [Nat.testBit_or, Nat.testBit_two_pow, ih, hb]

/-- The opcode bytes of R54's table and the bytes of R55's list have no bit in common and make up all 256. -/
theorem byteSet_opcodes_xor_unassigned :
    byteSet (Config.opcodeMap.map Prod.fst) ^^^ byteSet unassignedBytes = 2 ^ 256 - 1 := by
  decide +kernel

/-- A byte stands in R54's table exactly where R55 does not list it. -/
theorem mem_opcodes_iff (op : Byte) : op ∈ Config.opcodeMap.map Prod.fst ↔ op ∉ unassignedBytes := by
  have h := congrArg (Nat.testBit · op.toNat) byteSet_opcodes_xor_unassigned
  simp only [Nat.testBit_xor, testBit_byteSet, Nat.testBit_two_pow_sub_one, op.isLt, decide_true,
    bne_iff_ne, ne_eq, decide_eq_decide] at h
  exact (not_iff_comm.1 (not_iff.1 h)).symm

/-- A byte stands for nothing exactly where R55 lists it. -/
theorem formOf_eq_none_iff {op : Byte} : formOf op = none ↔ op ∈ unassignedBytes := by
  have hlookup : formOf op = none ↔ op ∉ Config.opcodeMap.map Prod.fst := by
    rw [formOf_eq, List.lookup_eq_none_iff]
    simp only [bne_iff_ne, List.mem_map, not_exists, not_and]
    exact forall₂_congr fun _ _ => ne_comm
  rw [hlookup, mem_opcodes_iff, not_not]

/-! ### The page-penalty marks -/

/-- The modes whose resolver may cross a page: an index register is added to a 16-bit address (R81, R82, R85). -/
def Mode.indexesWord : Mode → Bool
  | .mem (.abx _) | .mem (.aby _) | .mem (.izy _) => true
  | _ => false

theorem Mode.indexesWord_iff {m : Mode} : m.indexesWord = true ↔
    (∃ addr, m = .mem (.abx addr)) ∨ (∃ addr, m = .mem (.aby addr)) ∨ ∃ p, m = .mem (.izy p) := by
  cases m with
  | mem mm => cases mm <;> simp [indexesWord]
  | _ => simp [indexesWord]

/-- The mnemonics that only read the byte their memory mode resolves to and have an indexed form of 16 bits. -/
def indexedReads : List Mnemonic := [.adc, .sbc, .and, .ora, .eor, .cmp, .lda, .ldx, .ldy]

/-- The column of `+` marks is a function of the columns of mnemonics and modes, row by row (R54). -/
theorem pagePenalty_eq (i : Instr) : i.pagePenalty = (decide (i.mnemonic ∈ indexedReads) && i.mode.indexesWord) := by
  cases i <;> rfl

end Sys2Proof

/-! ### The obligations -/

section
open Sys2Proof

/-- Settles O6: a byte is rejected where the table has no row for it, and the bytes without a row are R55's. -/
theorem rejectedBytesAreTheUnassignedOnes : Obligations.RejectedBytesAreTheUnassignedOnes :=
  fun _ _ => decode_eq_unassigned_iff.trans formOf_eq_none_iff

/-- Settles O2: each word is decoded by evaluation, since it is closed. -/
theorem sampleWordsDecode : Obligations.SampleWordsDecode := by
  unfold Obligations.SampleWordsDecode
  decide

/-- Settles O4: the indirect JMP is the one instruction with a condition, and the lengths are the family `Encoding`. -/
theorem wellFormedInstructionsAndTheirLengths : Obligations.WellFormedInstructionsAndTheirLengths := by
  refine ⟨fun i hmode => ?_, fun _ => wellFormed_jmpInd, fun i => (Laws.encoding_holds i).1, fun _ => rfl⟩
  exact wellFormed_of_ne_jmpInd fun p hi => hmode p (congrArg Instr.mode hi)

/-- Settles O53: the marks are those of the indexed reads, and the modes that index a 16-bit address are the three. -/
theorem pagePenaltyIsForIndexedReads : Obligations.PagePenaltyIsForIndexedReads := by
  intro i
  rw [pagePenalty_eq, Bool.and_eq_true, decide_eq_true_eq, Mode.indexesWord_iff]
  rfl

end
end

section
/-! ### The family `40_step_and_addressing`: what the resolvers give, `N` and `Z`, the cycle count and `page_crossed` -/

namespace Sys2Proof.Machine

open Sys2Proof.Claims

/-! ### What the resolvers give -/

/-- The page-cross test in numbers: bits 15 to 8 are the quotient by 256 (R86). -/
theorem crossed_eq (ref a : Word) : crossed ref a = decide (ref.toNat / 256 ≠ a.toNat / 256) := by
  rw [crossed, Bool.eq_iff_iff, bne_iff_ne, ne_eq, ← BitVec.toNat_inj, hiByte_toNat, hiByte_toNat, decide_eq_true_eq]

/-- The indexed sum of the zero page modes stays in page 0 (R77, R78). -/
theorem resolveZpIndexed_ea (z r : Byte) : (resolveZpIndexed z r).ea = BitVec.ofNat 16 ((z.toNat + r.toNat) % 256) := by
  rw [resolveZpIndexed, ← BitVec.ofNat_toNat, BitVec.toNat_add]

/-- A byte index is added to a 16-bit base as a number (R81, R82, R85). -/
theorem resolveIndexed_ea_toNat (base : Word) (r : Byte) :
    (resolveIndexed base r).ea.toNat = (base.toNat + r.toNat) % 65536 := by
  rw [resolveIndexed, addAddress_toNat, BitVec.toNat_setWidth_of_le (by decide)]

/-- The page test of an indexed address compares the base with the sum (R81, R82, R85, R86). -/
theorem resolveIndexed_crossed (base : Word) (r : Byte) : (resolveIndexed base r).crossed = indexCrosses base r := by
  change crossed base (resolveIndexed base r).ea = _
  rw [crossed_eq, resolveIndexed_ea_toNat, indexCrosses]

/-- A pointer's second byte is read at the address after the first, across a page end too (R35; decision D11). -/
theorem State.readPointer_eq_pointed (s : State) (p : Word) : s.readPointer p = pointed p s := by
  rw [State.readPointer_eq, State.read16_eq, pointed, word_eq_pair]

/-- Only the modes that index a 16-bit address may cross a page (R76 to R78, R80 to R86). -/
theorem resolve_crossed (m : MemMode) (s : State) : (resolve m s).crossed = modeCrossing (.mem m) s := by
  cases m with
  | abx addr => exact resolveIndexed_crossed addr s.x
  | aby addr => exact resolveIndexed_crossed addr s.y
  | izy p => exact (resolveIndexed_crossed _ s.y).trans (by rw [State.readPointer_eq_pointed]; rfl)
  | _ => rfl

/-! ### `page_crossed` and the cycle count -/

/-- What an instruction other than a branch leaves in `page_crossed` as it is entered: its mode does not look at `PC`
(R73 to R78, R80 to R85). -/
theorem enter_pageCrossed_of_ne_rel {i : Instr} (hrel : ∀ off, i.mode ≠ .rel off) (s : State) :
    (enter i s).pageCrossed = modeCrossing i.mode s := by
  rw [enter_pageCrossed]
  cases hm : i.mode with
  | rel off => exact absurd hm (hrel off)
  | mem m => exact (congrArg Resolved.crossed (resolve_congr m rfl rfl rfl)).trans (resolve_crossed m s)
  | _ => rfl

/-- No effect of an instruction writes `page_crossed`: it stays as the resolver left it (R18). -/
theorem Transition.pageCrossed_eq {md : Mode} {m : Mnemonic} {s t : State} (h : Transition md s m t) :
    t.pageCrossed = s.pageCrossed := by
  cases h with
  | shift tg => cases tg <;> rfl
  | _ => rfl

/-- An instruction ends with `page_crossed` as it was entered with. -/
theorem exec_pageCrossed {i : Instr} {s t : State} (h : exec i s = .next t) :
    t.pageCrossed = (enter i s).pageCrossed := by
  obtain ⟨u, k, hu, rfl⟩ := exec_next h
  exact hu.pageCrossed_eq

/-- Every instruction but the eight branches runs in the common frame. -/
theorem exec_of_ne_rel {i : Instr} (hrel : ∀ off, i.mode ≠ .rel off) : ∃ f, ∀ s, exec i s = run i f s := by
  cases i with
  | bcc off | bcs off | beq off | bne off | bmi off | bpl off | bvc off | bvs off => exact absurd rfl (hrel off)
  | _ => exact ⟨_, fun _ => rfl⟩

/-- So it reports the count of R71, for the `page_crossed` it was entered with. -/
theorem exec_cycles_of_ne_rel {i : Instr} {s t : State} (hrel : ∀ off, i.mode ≠ .rel off) (h : exec i s = .next t) :
    t.cycles = some (cycleCount i (enter i s).pageCrossed) := by
  obtain ⟨f, hx⟩ := exec_of_ne_rel hrel
  rw [hx, run_eq] at h
  cases h
  rfl

end Sys2Proof.Machine

/-! ### The obligations -/

section
open Sys2Proof Sys2Proof.Machine Sys2Proof.Claims

/-- Settles O52: the resolver's `page_crossed` is what the instruction leaves and what its count is taken from. -/
theorem cycleCountIsBasePlusPenalty : Obligations.CycleCountIsBasePlusPenalty := by
  intro i s t hrel h
  have hcross := enter_pageCrossed_of_ne_rel hrel s
  refine ⟨(exec_pageCrossed h).trans hcross, ?_⟩
  rw [exec_cycles_of_ne_rel hrel h, hcross]
  simp only [cycleCount, Bool.and_eq_true]

/-- Settles O16: bit 7 of a byte is bit 7 of its number, and a byte is zero where its number is. -/
theorem setNzWritesTwoFlags : Obligations.SetNzWritesTwoFlags := by
  intro v f
  refine ⟨rfl, ?_, rfl, rfl, rfl, rfl, rfl⟩
  rw [Flags.setNZ_z, beq_iff_eq, ← BitVec.toNat_inj]
  rfl

/-- Settles O17: the quotients by 256 are compared; those of 0xFFxx and 0x00xx are 255 and 0. -/
theorem pageCrossComparesHighBytes : Obligations.PageCrossComparesHighBytes := by
  refine ⟨fun ref a => by rw [crossed_eq, decide_eq_true_eq], fun lo lo' => ?_⟩
  rw [crossed, word_eq_pair, word_eq_pair, hiByte_pair, hiByte_pair]
  decide

/-- Settles O18: a zero-extended byte is below 256, and the indexed sum is one byte. -/
theorem zeroPageModesStayInPageZero : Obligations.ZeroPageModesStayInPageZero := by
  have hindexed (z r : Byte) : (resolveZpIndexed z r).ea.toNat = (z.toNat + r.toNat) % 256 := by
    rw [resolveZpIndexed_ea, BitVec.toNat_ofNat]
    omega
  intro z s
  exact ⟨⟨BitVec.toNat_setWidth_of_le (by decide), rfl⟩, ⟨hindexed z s.x, rfl⟩, ⟨hindexed z s.y, rfl⟩⟩

/-- Settles O19: absolute is the operand itself, and the indexed modes share one resolver. -/
theorem absoluteModesAddTheIndex : Obligations.AbsoluteModesAddTheIndex := by
  intro addr s
  exact ⟨⟨rfl, rfl⟩,
    ⟨resolveIndexed_ea_toNat addr s.x, resolveIndexed_crossed addr s.x⟩,
    ⟨resolveIndexed_ea_toNat addr s.y, resolveIndexed_crossed addr s.y⟩⟩

/-- Settles O20: the three modes dereference one and the same way; `X` is added before it, `Y` after it. -/
theorem pointerModesDereferenceZeroPage : Obligations.PointerModesDereferenceZeroPage := by
  intro s
  refine ⟨fun i p hwf hm => ?_, fun p => ⟨s.readPointer_eq_pointed p, rfl⟩, fun p => ⟨?_, rfl⟩, fun p => ⟨?_, ?_⟩⟩
  · rw [eq_jmpInd_of_mode hm] at hwf
    exact wellFormed_jmpInd.1 hwf
  · rw [← resolveZpIndexed_ea]
    exact s.readPointer_eq_pointed _
  · rw [← State.readPointer_eq_pointed]
    exact resolveIndexed_ea_toNat _ s.y
  · exact resolve_crossed (.izy p) s

end
end

section
/-! ### The family `41_arithmetic`: the adders in numbers, and what ADC and SBC leave -/

namespace Sys2Proof.Machine

open Sys2Proof.Claims

/-! ### `V` of an addition -/

/-- Masking with 0x80 tests the sign bit. -/
theorem and_signBit_ne_zero (x : Byte) : ((x &&& 0x80#8) != 0#8) = x.msb := by
  rw [show (0x80#8 : Byte) = BitVec.twoPow 8 7 from rfl, BitVec.and_twoPow,
    show x.getLsbD 7 = x.msb from (BitVec.msb_eq_getLsbD_last x).symm]
  cases x.msb <;> rfl

/-- The test of R100 in sign bits: both operands have another sign than the result. -/
theorem addOverflow_eq_msb (a m r : Byte) : addOverflow a m r = ((a.msb != r.msb) && (m.msb != r.msb)) := by
  rw [addOverflow, and_signBit_ne_zero, BitVec.msb_and, BitVec.msb_xor, BitVec.msb_xor]

/-- The sign test finds exactly the sums whose signed value does not fit in a byte (R103). -/
theorem addBinary_overflow (a m : Byte) (c : Bool) :
    (addBinary a m c).overflow = outsideSigned (a.toInt + m.toInt + c.toNat) := by
  have hr := addBinary_value_toNat a m c
  have hc := c.toNat_le
  change addOverflow a m (addBinary a m c).value = _
  simp only [addOverflow_eq_msb, BitVec.msb_eq_decide, BitVec.toInt_eq_toNat_cond, hr, outsideSigned]
  rw [Bool.eq_iff_iff]
  simp only [Bool.and_eq_true, bne_iff_ne, ne_eq, decide_eq_decide, decide_eq_true_eq]
  have := a.isLt
  have := m.isLt
  split <;> split <;> omega

/-! ### Subtraction: addition of the one's complement -/

theorem complement_toNat (m : Byte) : (m ^^^ 0xFF#8).toNat = 255 - m.toNat := by
  rw [show m ^^^ 0xFF#8 = ~~~m from BitVec.xor_allOnes, BitVec.toNat_not]

theorem complement_toInt (m : Byte) : (m ^^^ 0xFF#8).toInt = -m.toInt - 1 := by
  rw [BitVec.toInt_eq_toNat_cond, BitVec.toInt_eq_toNat_cond, complement_toNat]
  have := m.isLt
  split <;> split <;> omega

/-- The difference a subtraction stores, mod 256 (R101). -/
theorem subBinary_value_toNat (a m : Byte) (c : Bool) :
    ((subBinary a m c).value.toNat : Int) = ((a.toNat : Int) - m.toNat - (1 - c.toNat)) % 256 := by
  rw [subBinary_eq, addBinary_value_toNat, complement_toNat]
  have := m.isLt
  omega

/-- The carry out of a subtraction is 1 where nothing is borrowed (R101). -/
theorem subBinary_carry (a m : Byte) (c : Bool) :
    (subBinary a m c).carry = decide ((a.toNat : Int) - m.toNat - (1 - c.toNat) ≥ 0) := by
  rw [subBinary_eq, addBinary_carry, complement_toNat, decide_eq_decide]
  have := m.isLt
  omega

/-- `V` of a subtraction is about the difference, not about the operand's negation (R101; decision D13). -/
theorem subBinary_overflow (a m : Byte) (c : Bool) :
    (subBinary a m c).overflow = outsideSigned (a.toInt - m.toInt - (1 - c.toNat)) := by
  rw [subBinary_eq, addBinary_overflow, complement_toInt]
  congr 1
  omega

/-! ### Packed BCD -/

theorem bcdval_eq_decimalValue (b : Byte) : bcdval b = decimalValue b := by
  simp only [bcdval, bcdValid, decimalValue, Bool.and_eq_true, decide_eq_true_eq]

theorem addDecimal_value_toNat (a m : Byte) (c : Bool) :
    (addDecimal a m c).value.toNat = packedDecimal ((decimalValue a + decimalValue m + c.toNat) % 100) := by
  rw [← bcdval_eq_decimalValue, ← bcdval_eq_decimalValue]
  exact bcdpack_toNat (Nat.mod_lt _ (by decide))

theorem addDecimal_carry (a m : Byte) (c : Bool) :
    (addDecimal a m c).carry = decide (decimalValue a + decimalValue m + c.toNat > 99) := by
  rw [← bcdval_eq_decimalValue, ← bcdval_eq_decimalValue]
  rfl

theorem subDecimal_value_toNat (a m : Byte) (c : Bool) :
    (subDecimal a m c).value.toNat =
      packedDecimal (((decimalValue a : Int) - decimalValue m - (1 - c.toNat)) % 100).toNat := by
  rw [← bcdval_eq_decimalValue, ← bcdval_eq_decimalValue]
  exact bcdpack_toNat (by omega)

theorem subDecimal_carry (a m : Byte) (c : Bool) :
    (subDecimal a m c).carry = decide ((decimalValue a : Int) - decimalValue m - (1 - c.toNat) ≥ 0) := by
  rw [← bcdval_eq_decimalValue, ← bcdval_eq_decimalValue]
  rfl

/-- Decimal mode leaves `V` as binary mode does (R100; decision D14). -/
theorem addDecimal_overflow (a m : Byte) (c : Bool) :
    (addDecimal a m c).overflow = outsideSigned (a.toInt + m.toInt + c.toNat) := addBinary_overflow a m c

/-- The same for a subtraction (R101; decisions D13, D14). -/
theorem subDecimal_overflow (a m : Byte) (c : Bool) :
    (subDecimal a m c).overflow = outsideSigned (a.toInt - m.toInt - (1 - c.toNat)) := subBinary_overflow a m c

/-! ### What ADC and SBC leave -/

/-- The setter of R88 in numbers: bit 7 of a byte is whether it reaches 128. -/
theorem Flags.setNZ_eq_withNZ (r : Byte) (f : Flags) : f.setNZ r = withNZ r f := by
  have hn : r.getLsbD 7 = decide (r.toNat ≥ 128) := (BitVec.msb_eq_getLsbD_last r).symm.trans BitVec.msb_eq_toNat
  have hz : (r == 0#8) = decide (r.toNat = 0) := by
    rw [Bool.eq_iff_iff, beq_iff_eq, ← BitVec.toNat_inj, decide_eq_true_eq]
    rfl
  rw [Flags.setNZ, hn, hz, withNZ]

/-- The effect of an adder: its result for `A`, the operand and `C` goes to `A`, with `N` from that result too. -/
def addWith (alu : Byte → Byte → Bool → AluOut) (src : Source) (s : State) : State :=
  let out := alu s.a (sourceByte src s) s.flags.c
  accumulate out out.value s

/-- ADC applies the adder that `D` selects; `N` comes from the stored result with either (R100; decision D14). -/
theorem adc_eq_addWith (src : Source) (s : State) :
    adc src s = addWith (if s.flags.d then addDecimal else addBinary) src s := by
  cases hd : s.flags.d <;> simp [adc, addWith, hd]

/-- So does SBC (R101; decision D14). -/
theorem sbc_eq_addWith (src : Source) (s : State) :
    sbc src s = addWith (if s.flags.d then subDecimal else subBinary) src s := by
  cases hd : s.flags.d <;> simp [sbc, addWith, hd]

/-- What an instruction that applies an adder leaves, in terms of what the adder gives; the operand is the one its mode
reads, and nothing else changes. -/
theorem ends_of_addWith {i : Instr} {f : Source → State → State} {alu : Byte → Byte → Bool → AluOut}
    (s : State) (hi : effectOf i.mnemonic = onSource f)
    (hf : ∀ src, f src (enter i s) = addWith alu src (enter i s)) :
    ∃ (src : Source) (t : State), i.mode = src.mode ∧
      (let out := alu s.a (sourceByte src s) s.flags.c
       Ends i s t out.value s.x s.y s.sp (withNZ out.value { s.flags with c := out.carry, v := out.overflow })
        (nextPc i s)) ∧ KeepsMemory s t := by
  obtain ⟨src, hmode, hx⟩ := exec_of_source hi
  refine ⟨src, _, hmode, ⟨(hx s).trans (run_eq i _ s), ?_⟩, ?_⟩ <;> rw [hf, addWith, sourceByte_enter]
  · rw [← Flags.setNZ_eq_withNZ]
    exact ⟨rfl, rfl, rfl, rfl, rfl, rfl⟩
  · exact fun _ => rfl

end Sys2Proof.Machine

/-! ### The obligations -/

section
open Sys2Proof Sys2Proof.Machine Sys2Proof.Claims

/-- Settles O23: with `D` clear, ADC applies the binary adder. -/
theorem adcBinaryAddsWithCarry : Obligations.AdcBinaryAddsWithCarry := by
  intro i s hi hd
  obtain ⟨src, t, hmode, hends, hmem⟩ := ends_of_addWith (alu := addBinary) s (congrArg effectOf hi)
    (fun _ => by simp [adc_eq_addWith, hd])
  simp only [addBinary_carry, addBinary_overflow] at hends
  exact ⟨src, t, _, hmode, ⟨addBinary_value_toNat .., hends⟩, hmem⟩

/-- Settles O24: with `D` set, ADC applies the decimal adder. -/
theorem adcDecimalAddsPackedDigits : Obligations.AdcDecimalAddsPackedDigits := by
  intro i s hi hd
  obtain ⟨src, t, hmode, hends, hmem⟩ := ends_of_addWith (alu := addDecimal) s (congrArg effectOf hi)
    (fun _ => by simp [adc_eq_addWith, hd])
  simp only [addDecimal_carry, addDecimal_overflow] at hends
  exact ⟨src, t, _, hmode, ⟨addDecimal_value_toNat .., hends⟩, hmem⟩

/-- Settles O25: with `D` clear, SBC applies the binary adder to the one's complement of the operand. -/
theorem sbcBinarySubtractsWithBorrow : Obligations.SbcBinarySubtractsWithBorrow := by
  intro i s hi hd
  obtain ⟨src, t, hmode, hends, hmem⟩ := ends_of_addWith (alu := subBinary) s (congrArg effectOf hi)
    (fun _ => by simp [sbc_eq_addWith, hd])
  simp only [subBinary_carry, subBinary_overflow] at hends
  exact ⟨src, t, _, hmode, ⟨subBinary_value_toNat .., hends⟩, hmem⟩

/-- Settles O26: with `D` set, SBC applies the decimal subtraction. -/
theorem sbcDecimalSubtractsPackedDigits : Obligations.SbcDecimalSubtractsPackedDigits := by
  intro i s hi hd
  obtain ⟨src, t, hmode, hends, hmem⟩ := ends_of_addWith (alu := subDecimal) s (congrArg effectOf hi)
    (fun _ => by simp [sbc_eq_addWith, hd])
  simp only [subDecimal_carry, subDecimal_overflow] at hends
  exact ⟨src, t, _, hmode, ⟨subDecimal_value_toNat .., hends⟩, hmem⟩

end
end

section
/-! ### The family `42_logic_shift`: what the logic instructions and BIT leave, the shifts and rotates in numbers, the
nine-bit rotation -/

namespace Sys2Proof.Machine

open Sys2Proof.Claims

/-! ### AND, ORA, EOR and BIT -/

/-- What an instruction that loads `A` with a byte `r src` leaves, `src` being the operand of its mode: `A`, `N` and `Z`
change, nothing else. -/
theorem ends_of_loadA {i : Instr} {f : Source → State → State} {r : Source → Byte} (s : State)
    (hi : effectOf i.mnemonic = onSource f) (hf : ∀ src, f src (enter i s) = (enter i s).loadA (r src)) :
    ∃ (src : Source) (t : State), i.mode = src.mode ∧
      Ends i s t (r src) s.x s.y s.sp (withNZ (r src) s.flags) (nextPc i s) ∧ KeepsMemory s t := by
  obtain ⟨src, hmode, hx⟩ := exec_of_source hi
  refine ⟨src, _, hmode, ⟨(hx s).trans (run_eq i _ s), ?_⟩, ?_⟩ <;> rw [hf, State.loadA]
  · rw [← Flags.setNZ_eq_withNZ]
    exact ⟨rfl, rfl, rfl, rfl, rfl, rfl⟩
  · exact fun _ => rfl

/-- The flags of BIT in numbers: `Z` from `A & m`, `N` and `V` from bits 7 and 6 of `m` itself (R117). -/
theorem bitTest_eq (src : Source) (s : State) :
    bitTest src s = s.setFlags { s.flags with
      z := decide ((s.a &&& sourceByte src s).toNat = 0)
      n := (sourceByte src s).toNat.testBit 7
      v := (sourceByte src s).toNat.testBit 6 } := by
  have hz : ((s.a &&& sourceByte src s) == 0#8) = decide ((s.a &&& sourceByte src s).toNat = 0) :=
    congrArg Flags.z (Flags.setNZ_eq_withNZ _ s.flags)
  rw [bitTest, hz]
  rfl

/-! ### The shifts and rotates, in numbers -/

/-- On canonical memory a write changes one byte (R31). -/
theorem stores_write {s : State} (hs : s.Inv) (ea : Word) (v : Byte) : Stores ea v s (s.write ea v) :=
  ⟨by rw [State.read_write hs, if_pos rfl], fun b hb => by rw [State.read_write hs, if_neg hb]⟩

/-- What an instruction leaves that turns the operand of its mode into `r tg` and shifts the bit `out tg` out: `A` or one
byte of memory changes, and `C`, `N` and `Z` (R118). -/
theorem shifts_of_storeShift {i : Instr} {f : Target → State → State} {r : Target → Byte} {out : Target → Bool}
    {s : State} (hs : s.Inv) (hi : effectOf i.mnemonic = onTarget f)
    (hf : ∀ tg, f tg (enter i s) = storeShift tg (r tg) (out tg) (enter i s)) :
    ∃ (tg : Target) (t : State), i.mode = tg.mode ∧ Shifts i s t tg (r tg) (out tg) := by
  obtain ⟨tg, hmode, hx⟩ := exec_of_target hi
  obtain ⟨k, hexec⟩ : ∃ k, exec i s = .next ((storeShift tg (r tg) (out tg) (enter i s)).setCycles k) :=
    ⟨_, hf tg ▸ (hx s).trans (run_eq i _ s)⟩
  refine ⟨tg, (storeShift tg (r tg) (out tg) (enter i s)).setCycles k, hmode, ?_⟩
  cases tg with
  | acc =>
    rw [Shifts, ← Flags.setNZ_eq_withNZ]
    exact ⟨⟨hexec, rfl, rfl, rfl, rfl, rfl, rfl⟩, fun _ => rfl⟩
  | mem m =>
    rw [Shifts, ← Flags.setNZ_eq_withNZ, ← resolve_enter m i s]
    exact ⟨⟨hexec, rfl, rfl, rfl, rfl, rfl, rfl⟩, stores_write hs _ _⟩

/-- The bit that a shift left moves out (R113, R115). -/
theorem getLsbD_seven_eq_decide (v : Byte) : v.getLsbD 7 = decide (v.toNat ≥ 128) := v.getLsbD_last

/-- The bit that a shift right moves out (R114, R116). -/
theorem getLsbD_zero_eq_decide (v : Byte) : v.getLsbD 0 = decide (v.toNat % 2 = 1) := Nat.testBit_zero v.toNat

theorem flagBit_toNat (c : Bool) : (flagBit c).toNat = c.toNat := by cases c <;> rfl

/-- A rotation left doubles the operand and adds `C`, mod 256 (R115). -/
theorem rotatedLeft_toNat (v : Byte) (c : Bool) :
    ((v <<< 1) ||| flagBit c).toNat = (2 * v.toNat + c.toNat) % 256 := by
  have hv : v.toNat <<< 1 % 2 ^ 8 = 2 ^ 1 * (v.toNat % 128) := by omega
  rw [BitVec.toNat_or, BitVec.toNat_shiftLeft, flagBit_toNat, hv, ← Nat.two_pow_add_eq_or_of_lt c.toNat_lt]
  have := c.toNat_lt
  omega

/-- A rotation right halves the operand and adds `C` as bit 7 (R116). -/
theorem rotatedRight_toNat (v : Byte) (c : Bool) :
    ((v >>> 1) ||| (flagBit c <<< 7)).toNat = v.toNat / 2 + 128 * c.toNat := by
  have hv : v.toNat >>> 1 < 2 ^ 7 := by omega
  have hc : c.toNat <<< 7 % 2 ^ 8 = 2 ^ 7 * c.toNat := by have := c.toNat_lt; omega
  rw [BitVec.toNat_or, BitVec.toNat_ushiftRight, BitVec.toNat_shiftLeft, flagBit_toNat, hc, Nat.or_comm,
    ← Nat.two_pow_add_eq_or_of_lt hv]
  omega

/-! ### The nine-bit rotation -/

/-- The nine bits that a rotate of `A` works on: `C` above `A` (R115, R116). -/
def State.carryAndA (s : State) : BitVec 9 := BitVec.cons s.flags.c s.a

/-- The nine bits hold exactly `A` and `C`. -/
theorem State.carryAndA_eq_iff {s t : State} : t.carryAndA = s.carryAndA ↔ t.a = s.a ∧ t.flags.c = s.flags.c := by
  constructor
  · intro h
    have ha := congrArg (BitVec.setWidth 8) h
    have hc := congrArg BitVec.msb h
    exact ⟨by simpa [carryAndA] using ha, by simpa [carryAndA] using hc⟩
  · rintro ⟨ha, hc⟩
    rw [carryAndA, carryAndA, ha, hc]

theorem flagBit_getLsbD (c : Bool) (k : Nat) : (flagBit c).getLsbD k = (decide (k = 0) && c) := by
  cases c <;> simp [flagBit]

/-- ROL's new `C` and `A` are the nine bits rotated left: bits 0 and 8 come from `C` and from bit 7 of `A`, every other
bit from the one below it. -/
theorem cons_rotateLeft (c : Bool) (v : Byte) :
    (BitVec.cons c v).rotateLeft 1 = BitVec.cons (v.getLsbD 7) ((v <<< 1) ||| flagBit c) := by
  refine BitVec.eq_of_getLsbD_eq fun k hk => ?_
  simp only [BitVec.getLsbD_rotateLeft, BitVec.getLsbD_cons, BitVec.getLsbD_or, BitVec.getLsbD_shiftLeft,
    flagBit_getLsbD]
  obtain rfl | ⟨hpos, hlt⟩ | rfl : k = 0 ∨ (0 < k ∧ k < 8) ∨ k = 8 := by omega
  · simp
  · simp [hpos.ne', hlt, hlt.ne, show k < 9 by omega, show k ≠ 9 by omega]
  · simp

/-- ROR's new `C` and `A` are the nine bits rotated right: bits 7 and 8 come from `C` and from bit 0 of `A`, every other
bit from the one above it. -/
theorem cons_rotateRight (c : Bool) (v : Byte) :
    (BitVec.cons c v).rotateRight 1 = BitVec.cons (v.getLsbD 0) ((v >>> 1) ||| (flagBit c <<< 7)) := by
  refine BitVec.eq_of_getLsbD_eq fun k hk => ?_
  simp only [BitVec.getLsbD_rotateRight, BitVec.getLsbD_cons, BitVec.getLsbD_or, BitVec.getLsbD_shiftLeft,
    BitVec.getLsbD_ushiftRight, flagBit_getLsbD]
  obtain hlow | rfl | rfl : k < 7 ∨ k = 7 ∨ k = 8 := by omega
  · simp [hlow, show k < 8 by omega, show k ≠ 8 by omega, show 1 + k ≠ 8 by omega]
  · simp
  · simp

/-- Bit `k` from the top, after `n` rotations left by one, is the bit that stood `n` below it, around the end. -/
theorem getMsbD_iterate_rotateLeft {w k : Nat} (x : BitVec w) (n : Nat) (hk : k < w) :
    ((BitVec.rotateLeft · 1)^[n] x).getMsbD k = x.getMsbD ((n + k) % w) := by
  induction n generalizing k with
  | zero => rw [Nat.zero_add, Nat.mod_eq_of_lt hk, Function.iterate_zero, id]
  | succ n ih =>
    have hlt : (1 + k) % w < w := Nat.mod_lt _ (Nat.zero_lt_of_lt hk)
    rw [Function.iterate_succ_apply', BitVec.getMsbD_rotateLeft, decide_eq_true hk, Bool.true_and, ih hlt,
      Nat.add_mod_mod, Nat.add_assoc]

/-- As many rotations left as there are bits bring every bit back. -/
theorem iterate_rotateLeft_width {w : Nat} (x : BitVec w) : (BitVec.rotateLeft · 1)^[w] x = x := by
  refine BitVec.eq_of_getMsbD_eq fun k hk => ?_
  rw [getMsbD_iterate_rotateLeft x w hk, Nat.add_mod_left, Nat.mod_eq_of_lt hk]

/-- A rotation right undoes one left. -/
theorem rotateRight_rotateLeft :
    Function.LeftInverse (fun x : BitVec 9 => x.rotateRight 1) (BitVec.rotateLeft · 1) := by
  intro x
  refine BitVec.eq_of_getLsbD_eq fun k hk => ?_
  simp only [BitVec.getLsbD_rotateRight, BitVec.getLsbD_rotateLeft]
  obtain hlow | rfl : k < 8 ∨ k = 8 := by omega
  · simp [hlow, show 1 + k < 9 by omega]
  · simp

/-- So nine rotations right bring every bit back too: they undo nine rotations left, which change nothing. -/
theorem iterate_nine_rotateRight (x : BitVec 9) : (BitVec.rotateRight · 1)^[9] x = x := by
  have h := rotateRight_rotateLeft.iterate 9 x
  rwa [iterate_rotateLeft_width] at h

/-- ROL on `A` rotates the nine bits left (R115). -/
theorem exec_rolAcc (s : State) : ∃ t, exec .rolAcc s = .next t ∧ t.carryAndA = s.carryAndA.rotateLeft 1 :=
  ⟨_, rfl, (cons_rotateLeft s.flags.c s.a).symm⟩

/-- ROR on `A` rotates them right (R116). -/
theorem exec_rorAcc (s : State) : ∃ t, exec .rorAcc s = .next t ∧ t.carryAndA = s.carryAndA.rotateRight 1 :=
  ⟨_, rfl, (cons_rotateRight s.flags.c s.a).symm⟩

/-! ### One instruction after the other -/

theorem execAll_cons {i : Instr} {s t : State} (h : exec i s = .next t) (is : List Instr) :
    execAll (i :: is) s = execAll is t := by
  rw [execAll, h]

/-- Where one run of `i` completes and maps what is observed of a state by `g`, `n` runs map it by `g` `n` times. -/
theorem execAll_replicate {α : Type} {i : Instr} {obs : State → α} {g : α → α}
    (hi : ∀ s, ∃ t, exec i s = .next t ∧ obs t = g (obs s)) (n : Nat) (s : State) :
    ∃ t, execAll (List.replicate n i) s = .next t ∧ obs t = g^[n] (obs s) := by
  induction n generalizing s with
  | zero => exact ⟨s, rfl, rfl⟩
  | succ n ih =>
    obtain ⟨u, hu, hobs⟩ := hi s
    obtain ⟨t, ht, hobs'⟩ := ih u
    exact ⟨t, (execAll_cons hu _).trans ht, by rw [hobs', hobs, Function.iterate_succ_apply]⟩

end Sys2Proof.Machine

/-! ### The obligations -/

section
open Sys2Proof Sys2Proof.Machine Sys2Proof.Claims

/-- Settles O27: each of the three loads `A` with its bitwise result. -/
theorem logicWritesAccumulatorAndNZ : Obligations.LogicWritesAccumulatorAndNZ := by
  intro i s
  refine ⟨fun hi => ?_, fun hi => ?_, fun hi => ?_⟩ <;>
    exact ends_of_loadA s (congrArg effectOf hi) fun src => by simp [andA, oraA, eorA]

/-- Settles O28: each of the two shifts the operand of its mode. -/
theorem shiftsMoveOneBitIntoCarry : Obligations.ShiftsMoveOneBitIntoCarry := by
  intro i s hs
  constructor
  · intro hi
    obtain ⟨tg, t, hmode, hshift⟩ := shifts_of_storeShift hs (congrArg effectOf hi) fun tg => by
      rw [asl, targetByte_enter]
    rw [getLsbD_seven_eq_decide] at hshift
    exact ⟨tg, t, _, hmode, by rw [BitVec.toNat_shiftLeft]; omega, hshift⟩
  · intro hi
    obtain ⟨tg, t, hmode, hshift⟩ := shifts_of_storeShift hs (congrArg effectOf hi) fun tg => by
      rw [lsr, targetByte_enter]
    rw [getLsbD_zero_eq_decide] at hshift
    exact ⟨tg, t, _, hmode, BitVec.toNat_ushiftRight .., hshift⟩

/-- Settles O29: each of the two shifts the operand of its mode, with `C` in the vacated bit. -/
theorem rotatesGoThroughCarry : Obligations.RotatesGoThroughCarry := by
  intro i s hs
  constructor
  · intro hi
    obtain ⟨tg, t, hmode, hshift⟩ := shifts_of_storeShift hs (congrArg effectOf hi) fun tg => by
      rw [rol, targetByte_enter, enter_flags]
    rw [getLsbD_seven_eq_decide] at hshift
    exact ⟨tg, t, _, hmode, rotatedLeft_toNat .., hshift⟩
  · intro hi
    obtain ⟨tg, t, hmode, hshift⟩ := shifts_of_storeShift hs (congrArg effectOf hi) fun tg => by
      rw [ror, targetByte_enter, enter_flags]
    rw [getLsbD_zero_eq_decide] at hshift
    exact ⟨tg, t, _, hmode, rotatedRight_toNat .., hshift⟩

/-- Settles O30: the nine bits of `C` and `A` come back after nine rotations in one direction, and after one in each. -/
theorem nineRotationsRestoreAccumulatorAndCarry : Obligations.NineRotationsRestoreAccumulatorAndCarry := by
  intro s
  refine ⟨?_, ?_, ?_⟩
  · obtain ⟨t, ht, hobs⟩ := execAll_replicate (g := (BitVec.rotateLeft · 1)) exec_rolAcc 9 s
    exact ⟨t, ht, State.carryAndA_eq_iff.1 (hobs.trans (iterate_rotateLeft_width _))⟩
  · obtain ⟨t, ht, hobs⟩ := execAll_replicate (g := (BitVec.rotateRight · 1)) exec_rorAcc 9 s
    exact ⟨t, ht, State.carryAndA_eq_iff.1 (hobs.trans (iterate_nine_rotateRight _))⟩
  · obtain ⟨u, hu, hleft⟩ := exec_rolAcc s
    obtain ⟨t, ht, hright⟩ := exec_rorAcc u
    refine ⟨t, by rw [execAll_cons hu, execAll_cons ht, execAll], State.carryAndA_eq_iff.1 ?_⟩
    rw [hright, hleft]
    exact rotateRight_rotateLeft s.carryAndA

/-- Settles O31: BIT writes three flags of the entered state. -/
theorem bitTestsMemoryByte : Obligations.BitTestsMemoryByte := by
  intro i s hi
  obtain ⟨src, hmode, hx⟩ := exec_of_source (congrArg effectOf hi)
  refine ⟨src, _, hmode, ⟨(hx s).trans (run_eq i _ s), ?_⟩, ?_⟩ <;> rw [bitTest_eq, sourceByte_enter]
  · exact ⟨rfl, rfl, rfl, rfl, rfl, rfl⟩
  · exact fun _ => rfl

end
end

section
/-! ### The family `43_compare_incdec`: what a compare leaves, what INC and DEC leave, the counting of `X` and `Y` -/

namespace Sys2Proof.Machine

open Sys2Proof.Claims

/-! ### CMP, CPX and CPY -/

/-- The flags of a compare in numbers: `N` and `Z` are those of the exact difference, cut to eight bits (R134). -/
theorem Flags.compare_eq_withNZ (reg m : Byte) (f : Flags) :
    f.compare reg m =
      withNZ (BitVec.ofInt 8 ((reg.toNat : Int) - m.toNat)) { f with c := decide (reg.toNat ≥ m.toNat) } := by
  have hdiff : reg - m = BitVec.ofInt 8 ((reg.toNat : Int) - m.toNat) := by
    rw [← BitVec.toNat_inj, BitVec.toNat_sub, BitVec.toNat_ofInt]
    omega
  rw [Flags.compare, Flags.setNZ_eq_withNZ, hdiff]

/-- What an instruction leaves that compares `reg` with the operand of its mode: `C`, `N` and `Z` change, nothing
else. -/
theorem ends_of_compareWith {i : Instr} {f : Source → State → State} {reg : Byte} (s : State)
    (hi : effectOf i.mnemonic = onSource f) (hf : ∀ src, f src (enter i s) = compareWith reg src (enter i s)) :
    ∃ (src : Source) (t : State), i.mode = src.mode ∧
      Ends i s t s.a s.x s.y s.sp
        (withNZ (BitVec.ofInt 8 ((reg.toNat : Int) - (sourceByte src s).toNat))
          { s.flags with c := decide (reg.toNat ≥ (sourceByte src s).toNat) })
        (nextPc i s) ∧ KeepsMemory s t := by
  obtain ⟨src, hmode, hx⟩ := exec_of_source hi
  refine ⟨src, _, hmode, ⟨(hx s).trans (run_eq i _ s), ?_⟩, ?_⟩ <;> rw [hf, compareWith, sourceByte_enter]
  · rw [← Flags.compare_eq_withNZ]
    exact ⟨rfl, rfl, rfl, rfl, rfl, rfl⟩
  · exact fun _ => rfl

/-! ### INC and DEC -/

/-- What an instruction leaves that adds `d` to the byte at its effective address: that byte changes, and `N` and `Z`,
nothing else. -/
theorem ends_of_addToMemory {i : Instr} {d : Byte} {s : State} (hs : s.Inv)
    (hi : effectOf i.mnemonic = onMemory (addToMemory d)) :
    ∃ (m : MemMode) (t : State), i.mode = .mem m ∧
      (let r := s.read (resolve m s).ea + d
       Ends i s t s.a s.x s.y s.sp (withNZ r s.flags) (nextPc i s) ∧ Stores (resolve m s).ea r s t) := by
  obtain ⟨m, hmode, hx⟩ := exec_of_memory hi
  refine ⟨m, _, hmode, ⟨(hx s).trans (run_eq i _ s), ?_⟩, ?_⟩ <;> rw [addToMemory, resolve_enter, enter_read]
  · rw [← Flags.setNZ_eq_withNZ]
    exact ⟨rfl, rfl, rfl, rfl, rfl, rfl⟩
  · exact stores_write hs _ _

/-! ### The index registers -/

/-- What an instruction leaves that changes registers alone and sets `N` and `Z` from `r`: the registers of `u`, and no
other flag and no byte of memory changed. -/
theorem ends_of_setNZ {i : Instr} {f : State → State} {s u : State} {r : Byte} (hx : exec i s = run i f s)
    (hf : f (enter i s) = u.setNZ r) (hflags : u.flags = s.flags) (hpc : u.pc = nextPc i s) (hmem : u.mem = s.mem) :
    ∃ t, Ends i s t u.a u.x u.y u.sp (withNZ r s.flags) (nextPc i s) ∧ KeepsMemory s t := by
  refine ⟨_, ⟨hx.trans (run_eq i f s), ?_⟩, ?_⟩ <;> rw [hf]
  · rw [← Flags.setNZ_eq_withNZ, ← hflags]
    exact ⟨rfl, rfl, rfl, rfl, rfl, hpc⟩
  · exact fun b => congrArg (Memory.read · b) hmem

/-- Adding one and the same byte 256 times adds a multiple of 256, which is 0 mod 256. -/
theorem iterate_add_256 (d v : Byte) : (· + d)^[256] v = v := by
  have hd : 256 • d = 0 := by
    rw [nsmul_eq_mul, show ((256 : Nat) : Byte) = 0 from rfl, zero_mul]
  rw [add_right_iterate, hd]
  exact add_zero v

/-- Where every run of `i` completes and adds `d` to a register, 256 runs restore the register. -/
theorem execAll_replicate_256 (i : Instr) (reg : State → Byte) (d : Byte)
    (hi : ∀ s, ∃ t, exec i s = .next t ∧ reg t = reg s + d) (s : State) :
    ∃ t, execAll (List.replicate 256 i) s = .next t ∧ reg t = reg s := by
  obtain ⟨t, ht, hreg⟩ := execAll_replicate (g := (· + d)) hi 256 s
  exact ⟨t, ht, hreg.trans (iterate_add_256 d _)⟩

end Sys2Proof.Machine

/-! ### The obligations -/

section
open Sys2Proof Sys2Proof.Machine Sys2Proof.Claims

/-- Settles O32: the three compare their own register in the one operation. -/
theorem comparesSetCarryAndNZ : Obligations.ComparesSetCarryAndNZ := by
  rintro i s reg (⟨hi, rfl⟩ | ⟨hi, rfl⟩ | ⟨hi, rfl⟩) <;>
    exact ends_of_compareWith s (congrArg effectOf hi) fun _ => rfl

/-- Settles O33: both add to the byte at the effective address, INC 1 and DEC 255. -/
theorem incDecChangeOneMemoryByte : Obligations.IncDecChangeOneMemoryByte := by
  intro i s hs
  constructor
  · intro hi
    obtain ⟨m, t, hmode, hends⟩ := ends_of_addToMemory (d := 1) hs (congrArg effectOf hi)
    exact ⟨m, t, _, hmode, BitVec.toNat_add .., hends⟩
  · intro hi
    obtain ⟨m, t, hmode, hends⟩ := ends_of_addToMemory (d := -1) hs (congrArg effectOf hi)
    exact ⟨m, t, _, hmode, BitVec.toNat_add .., hends⟩

/-- Settles O34: each loads its register with the register's byte and 1 more, or 255 more. -/
theorem indexRegistersCountModulo256 : Obligations.IndexRegistersCountModulo256 := by
  have hinc (v : Byte) : (v + 1).toNat = (v.toNat + 1) % 256 := BitVec.toNat_add ..
  have hdec (v : Byte) : (v - 1).toNat = (v.toNat + 255) % 256 := by rw [sub_eq_add_neg]; exact BitVec.toNat_add ..
  intro s
  obtain ⟨inxEnd, hinx⟩ := ends_of_setNZ (u := (enter .inx s).setX (s.x + 1)) (f := inx) rfl rfl rfl rfl rfl
  obtain ⟨dexEnd, hdex⟩ := ends_of_setNZ (u := (enter .dex s).setX (s.x - 1)) (f := dex) rfl rfl rfl rfl rfl
  obtain ⟨inyEnd, hiny⟩ := ends_of_setNZ (u := (enter .iny s).setY (s.y + 1)) (f := iny) rfl rfl rfl rfl rfl
  obtain ⟨deyEnd, hdey⟩ := ends_of_setNZ (u := (enter .dey s).setY (s.y - 1)) (f := dey) rfl rfl rfl rfl rfl
  exact ⟨⟨inxEnd, _, hinc s.x, hinx⟩, ⟨dexEnd, _, hdec s.x, hdex⟩, ⟨inyEnd, _, hinc s.y, hiny⟩,
    ⟨deyEnd, _, hdec s.y, hdey⟩⟩

/-- Settles O35: each adds the same byte at every run, the decrements 255. -/
theorem indexRegistersReturnAfter256Counts : Obligations.IndexRegistersReturnAfter256Counts := by
  intro s
  refine ⟨?_, ?_, ?_, ?_⟩
  · exact execAll_replicate_256 .inx State.x 1 (fun u => ⟨_, run_eq .inx inx u, rfl⟩) s
  · exact execAll_replicate_256 .dex State.x (-1) (fun u => ⟨_, run_eq .dex dex u, sub_eq_add_neg u.x 1⟩) s
  · exact execAll_replicate_256 .iny State.y 1 (fun u => ⟨_, run_eq .iny iny u, rfl⟩) s
  · exact execAll_replicate_256 .dey State.y (-1) (fun u => ⟨_, run_eq .dey dey u, sub_eq_add_neg u.y 1⟩) s

end
end

section
/-! ### The family `44_branch_jump`: where a branch goes, what a branch and JMP leave -/

namespace Sys2Proof.Machine

open Sys2Proof.Claims

/-! ### The relative resolver -/

/-- The sign-extended offset is added to the next instruction's address as a signed number, mod 65536 (R79). -/
theorem resolveRelative_ea (off : Byte) (pc : Word) :
    (resolveRelative off pc).ea = BitVec.ofInt 16 (pc.toNat + off.toInt) := by
  have hsum : (resolveRelative off pc).ea = pc + off.signExtend 16 := addAddress_eq ..
  rw [hsum, BitVec.ofInt_add, BitVec.ofInt_natCast, BitVec.ofNat_toNat, BitVec.setWidth_eq, BitVec.signExtend]

/-- The page of the target is compared with that of the next instruction (R79, R86; decision D28). -/
theorem resolveRelative_crossed (off : Byte) (pc : Word) :
    (resolveRelative off pc).crossed =
      decide (pc.toNat / 256 ≠ (BitVec.ofInt 16 (pc.toNat + off.toInt)).toNat / 256) := by
  rw [← resolveRelative_ea]
  exact crossed_eq pc _

/-! ### What a branch leaves -/

/-- The statement's state after a branch, in terms of the model's resolver and count (R79, R72). -/
theorem branched_eq (s : State) (off : Byte) (taken : Bool) :
    branched s off taken =
      { s with
        pc := if taken then (resolveRelative off (s.pc + 2)).ea else s.pc + 2
        pageCrossed := (resolveRelative off (s.pc + 2)).crossed
        cycles := some (branchCycles taken (resolveRelative off (s.pc + 2)).crossed) } := by
  rw [resolveRelative_crossed, resolveRelative_ea]
  rfl

/-- A branch is two bytes long, and its resolver works on the address after them (R70, R79). -/
theorem enter_of_mode_rel {i : Instr} {off : Byte} (s : State) (hmode : i.mode = .rel off) :
    enter i s = { s with pc := s.pc + 2, pageCrossed := (resolveRelative off (s.pc + 2)).crossed } := by
  rw [enter, Instr.length, hmode]
  rfl

/-- A branch leaves the statement's state, with its condition for the branch taken (R140). -/
theorem branch_eq_branched {i : Instr} {off : Byte} {cond : Flags → Bool} {taken : Bool} (s : State)
    (hmode : i.mode = .rel off) (hcond : cond s.flags = taken) :
    branch i off cond s = .next (branched s off taken) := by
  rw [branched_eq]
  cases taken with
  | true =>
    rw [branch_taken i off hcond, enter_of_mode_rel s hmode, Instr.length, hmode]
    rfl
  | false =>
    rw [branch_not_taken i off hcond, enter_of_mode_rel s hmode]
    rfl

/-! ### What a jump leaves -/

/-- A jump takes `PC` and `page_crossed` from the resolver of its mode, and changes the count besides, nothing else
(R149, R71). -/
theorem run_jump {i : Instr} {m : MemMode} (s : State) (hmode : i.mode = .mem m) (hpenalty : i.pagePenalty = false) :
    run i (jump m) s =
      .next { s with pc := (resolve m s).ea, pageCrossed := (resolve m s).crossed, cycles := some i.baseCycles } := by
  have hcross : (enter i s).pageCrossed = (resolve m s).crossed := by
    rw [enter_pageCrossed, hmode]
    exact congrArg Resolved.crossed (resolve_congr m rfl rfl rfl)
  have hcycles : cycleCount i (resolve m s).crossed = i.baseCycles := by rw [cycleCount, hpenalty]; rfl
  rw [run_eq, jump, resolve_enter, hcross, hcycles, ← hcross]
  rfl

end Sys2Proof.Machine

/-! ### The obligations -/

section
open Sys2Proof Sys2Proof.Machine Sys2Proof.Claims

/-- Settles O36: the eight run one and the same branch, each on the flag and polarity that its mnemonic names. -/
theorem branchesFollowTheirFlag : Obligations.BranchesFollowTheirFlag := by
  intro s off
  exact ⟨branch_eq_branched (cond := (!·.c)) s rfl rfl, branch_eq_branched (cond := (·.c)) s rfl rfl,
    branch_eq_branched (cond := (·.z)) s rfl rfl, branch_eq_branched (cond := (!·.z)) s rfl rfl,
    branch_eq_branched (cond := (·.n)) s rfl rfl, branch_eq_branched (cond := (!·.n)) s rfl rfl,
    branch_eq_branched (cond := (!·.v)) s rfl rfl, branch_eq_branched (cond := (·.v)) s rfl rfl⟩

/-- Settles O37: the effective address is the operand itself, or what the two bytes at the pointer give. -/
theorem jmpGoesToTheEffectiveAddress : Obligations.JmpGoesToTheEffectiveAddress := by
  intro s
  refine ⟨fun addr => run_jump s rfl rfl, fun p => ?_⟩
  rw [← State.readPointer_eq_pointed]
  exact run_jump s rfl rfl

end
end

section
/-! ### The family `45_stack_subroutine_interrupt`: where pushes and pulls go, what the stack instructions leave, the
trap and the return from it -/

namespace Sys2Proof.Machine

open Sys2Proof.Claims

/-! ### Stack addresses and the bytes of a word, in the statements' terms -/

/-- The statements' stack address is the model's, which ADDRESS_POLICY reduces mod 65536 (R155; decision D4). -/
theorem onStack_eq_stackAddress (sp : Byte) : onStack sp = stackAddress sp := rfl

/-- Each offset has a stack address of its own. -/
theorem onStack_inj {p q : Byte} : onStack p = onStack q ↔ p = q := by
  rw [onStack_eq_stackAddress, onStack_eq_stackAddress, stackAddress_inj]

/-- Bits 15 to 8 of a word are its quotient by 256. -/
theorem hiByte_eq_high (w : Word) : hiByte w = high w := by
  rw [high, ← hiByte_toNat, BitVec.ofNat_toNat, BitVec.setWidth_eq]

/-- Bits 7 to 0 of a word are its remainder by 256. -/
theorem loByte_eq_low (w : Word) : loByte w = low w := by
  rw [low, ← loByte_toNat, BitVec.ofNat_toNat, BitVec.setWidth_eq]

/-! `SP` after two pushes, and after two and three pulls. -/

theorem sub_one_sub_one (p : Byte) : p - 1 - 1 = p - 2 := sub_sub p 1 1

theorem add_one_add_one (p : Byte) : p + 1 + 1 = p + 2 := add_assoc p 1 1

theorem add_one_add_two (p : Byte) : p + 1 + 2 = p + 3 := add_assoc p 1 2

/-! ### What pushes write and pulls read -/

/-- A push stores its byte at the stack address, and no other (R155). -/
theorem stores_push {s : State} (hs : s.Inv) (v : Byte) : Stores (onStack s.sp) v s (s.push v) := by
  rw [onStack_eq_stackAddress]
  exact stores_write hs (stackAddress s.sp) v

/-- Two pushes store the high byte at the stack address and the low byte one offset below, and no other (R161, R163;
decision D6). -/
theorem State.pushWord_stores {s : State} (hs : s.Inv) (w : Word) :
    (s.pushWord w).read (onStack s.sp) = high w ∧ (s.pushWord w).read (onStack (s.sp - 1)) = low w ∧
      ∀ b, b ≠ onStack s.sp → b ≠ onStack (s.sp - 1) → (s.pushWord w).read b = s.read b := by
  obtain ⟨hhigh, hkeepHigh⟩ := stores_push hs (hiByte w)
  obtain ⟨hlow, hkeepLow⟩ := stores_push (State.push_wf hs (hiByte w)) (loByte w)
  have hne : onStack s.sp ≠ onStack (s.sp - 1) := fun h => sub_one_ne s.sp (onStack_inj.1 h).symm
  rw [State.pushWord_eq, ← hiByte_eq_high, ← loByte_eq_low]
  exact ⟨(hkeepLow _ hne).trans hhigh, hlow, fun b hb hb' => (hkeepLow b hb').trans (hkeepHigh b hb)⟩

/-- Two pulls read the low byte just above `SP` and the high byte above that (R162, R164; decision D6). -/
theorem State.pullWord_eq_word (s : State) :
    s.pullWord = word (s.read (onStack (s.sp + 2))) (s.read (onStack (s.sp + 1))) := by
  rw [word_eq_pair, ← add_one_add_one]
  rfl

/-! ### The trap, and the return from it -/

/-- The trap entry stores the return address, high byte first, and below it the status byte with `B` set and the old
`I` (R163; decisions D7, D8). -/
theorem State.takeBreak_stores {s : State} (hs : s.Inv) :
    s.takeBreak.read (onStack s.sp) = high (s.pc + 1) ∧ s.takeBreak.read (onStack (s.sp - 1)) = low (s.pc + 1) ∧
      s.takeBreak.read (onStack (s.sp - 2)) = statusByte { s.flags with b := true } ∧
      ∀ b, b ≠ onStack s.sp → b ≠ onStack (s.sp - 1) → b ≠ onStack (s.sp - 2) → s.takeBreak.read b = s.read b := by
  obtain ⟨hhigh, hlow, hkeepWord⟩ := State.pushWord_stores hs (s.pc + 1)
  obtain ⟨hstatus, hkeep⟩ := stores_push (State.pushWord_wf hs (s.pc + 1)) (pack { s.flags with b := true })
  rw [State.pushWord_sp, sub_one_sub_one] at hstatus hkeep
  have hread (b : Word) :
      s.takeBreak.read b = ((s.pushWord (s.pc + 1)).push (pack { s.flags with b := true })).read b :=
    congrArg (Memory.read · b) s.takeBreak_mem
  have hneHigh : onStack s.sp ≠ onStack (s.sp - 2) := fun h => by have := onStack_inj.1 h; bv_omega
  have hneLow : onStack (s.sp - 1) ≠ onStack (s.sp - 2) := fun h => by have := onStack_inj.1 h; bv_omega
  simp only [hread]
  exact ⟨(hkeep _ hneHigh).trans hhigh, (hkeep _ hneLow).trans hlow, hstatus.trans (pack_eq_statusByte _),
    fun b hb hb' hb'' => (hkeep b hb'').trans (hkeepWord b hb hb')⟩

/-- The trap entry goes to the vector, which lies off the stack page, out of reach of the pushes before it (R163). -/
theorem State.takeBreak_pc {s : State} (hs : s.Inv) :
    s.takeBreak.pc = word (s.read 0xFFFF#16) (s.read 0xFFFE#16) := by
  have hpc : s.takeBreak.pc = pair (s.takeBreak.read 0xFFFF#16) (s.takeBreak.read 0xFFFE#16) := rfl
  rw [hpc, State.takeBreak_read_off_stack hs (by decide), State.takeBreak_read_off_stack hs (by decide), word_eq_pair]

/-- RTI pulls `PC` after the status byte (R164; decision D6). -/
theorem State.returnFromInterrupt_pc (s : State) :
    s.returnFromInterrupt.pc = word (s.read (onStack (s.sp + 3))) (s.read (onStack (s.sp + 2))) := by
  have hpc : s.returnFromInterrupt.pc = s.pulled.pullWord := rfl
  rw [hpc, State.pullWord_eq_word, State.pulled_sp, add_one_add_two, add_one_add_one]
  rfl

end Sys2Proof.Machine

/-! ### The obligations -/

section
open Sys2Proof Sys2Proof.Machine Sys2Proof.Claims

/-- Settles O38: both push one byte, and nothing else. -/
theorem pushesStoreAtStackPointer : Obligations.PushesStoreAtStackPointer := by
  intro s hs
  refine ⟨⟨_, ⟨run_eq .pha pha s, rfl, rfl, rfl, rfl, rfl, rfl⟩, stores_push (s := enter .pha s) hs s.a⟩,
    ⟨_, ⟨run_eq .php php s, rfl, rfl, rfl, rfl, rfl, rfl⟩, ?_⟩⟩
  rw [← pack_eq_statusByte]
  exact stores_push (s := enter .php s) hs (pack s.flags)

/-- Settles O39: both pull one byte. -/
theorem pullsReadAboveStackPointer : Obligations.PullsReadAboveStackPointer := by
  intro s
  rw [← Flags.setNZ_eq_withNZ]
  exact ⟨⟨_, ⟨run_eq .pla pla s, rfl, rfl, rfl, rfl, rfl, rfl⟩, fun _ => rfl⟩,
    ⟨_, ⟨run_eq .plp plp s, rfl, rfl, rfl, rfl, rfl, rfl⟩, fun _ => rfl⟩⟩

/-- Settles O40: the pushed word is `PC` after the three bytes of JSR, less 1. -/
theorem jsrPushesReturnAddressAndJumps : Obligations.JsrPushesReturnAddressAndJumps := by
  intro s addr hs
  have hlast : s.pc + 2 = (enter (.jsr addr) s).pc - 1 := (add_sub_assoc s.pc 3 1).symm
  rw [hlast]
  exact ⟨_, ⟨run_eq (.jsr addr) (jsr addr) s, rfl, rfl, rfl, sub_one_sub_one s.sp, rfl, rfl⟩,
    State.pushWord_stores (s := enter (.jsr addr) s) hs _⟩

/-- Settles O41: RTS goes one above the pulled word. -/
theorem rtsReturnsAbovePulledAddress : Obligations.RtsReturnsAbovePulledAddress := by
  intro s
  have hpc := congrArg (· + 1) (enter .rts s).pullWord_eq_word
  exact ⟨_, ⟨run_eq .rts rts s, rfl, rfl, rfl, add_one_add_one s.sp, rfl, hpc⟩, fun _ => rfl⟩

/-- Settles O42: BRK is entered with `PC` past its opcode, 1 below the address that it pushes. -/
theorem brkTakesTheTrap : Obligations.BrkTakesTheTrap := by
  intro s hs
  have hsp : s.sp - 1 - 1 - 1 = s.sp - 3 := by rw [sub_one_sub_one]; exact sub_sub s.sp 1 2
  have hret : s.pc + 2 = (enter .brk s).pc + 1 := (add_assoc s.pc 1 1).symm
  rw [hret]
  exact ⟨_, ⟨run_eq .brk State.takeBreak s, rfl, rfl, rfl, hsp, rfl, State.takeBreak_pc (s := enter .brk s) hs⟩,
    State.takeBreak_stores (s := enter .brk s) hs⟩

/-- Settles O43: RTI pulls three bytes. -/
theorem rtiRestoresFlagsAndPc : Obligations.RtiRestoresFlagsAndPc := by
  intro s
  have hsp : s.sp + 1 + 1 + 1 = s.sp + 3 := by rw [add_one_add_one, add_one_add_two]
  exact ⟨_, ⟨run_eq .rti State.returnFromInterrupt s, rfl, rfl, rfl, hsp, rfl,
    (enter .rti s).returnFromInterrupt_pc⟩, fun _ => rfl⟩

end
end

section
/-! ### The family `46_load_store_transfer_flag`: what the loads, the stores and the flag instructions leave -/

namespace Sys2Proof.Machine

open Sys2Proof.Claims

/-- What an instruction leaves that loads a register with the operand byte of its mode and sets `N` and `Z` from it:
`put` writes that byte to the register, and changes neither flags nor `PC` nor memory. -/
theorem ends_of_load {i : Instr} {f : Source → State → State} {put : Byte → State} (s : State)
    (hi : effectOf i.mnemonic = onSource f)
    (hf : ∀ src, f src (enter i s) = (put (sourceByte src s)).setNZ (sourceByte src s))
    (hput : ∀ r, (put r).flags = s.flags ∧ (put r).pc = nextPc i s ∧ (put r).mem = s.mem) :
    ∃ (src : Source) (t : State), i.mode = src.mode ∧
      (let u := put (sourceByte src s)
       Ends i s t u.a u.x u.y u.sp (withNZ (sourceByte src s) s.flags) (nextPc i s)) ∧ KeepsMemory s t := by
  obtain ⟨src, hmode, hx⟩ := exec_of_source hi
  obtain ⟨hflags, hpc, hmem⟩ := hput (sourceByte src s)
  obtain ⟨t, hends⟩ := ends_of_setNZ (hx s) (hf src) hflags hpc hmem
  exact ⟨src, t, hmode, hends⟩

/-- What an instruction leaves that writes the byte `reg` at its effective address: that byte changes, nothing else. -/
theorem ends_of_store {i : Instr} {f : MemMode → State → State} {reg : Byte} {s : State} (hs : s.Inv)
    (hi : effectOf i.mnemonic = onMemory f)
    (hf : ∀ m, f m (enter i s) = (enter i s).write (resolve m (enter i s)).ea reg) :
    ∃ (m : MemMode) (t : State), i.mode = .mem m ∧
      Ends i s t s.a s.x s.y s.sp s.flags (nextPc i s) ∧ Stores (resolve m s).ea reg s t := by
  obtain ⟨m, hmode, hx⟩ := exec_of_memory hi
  refine ⟨m, _, hmode, ⟨(hx s).trans (run_eq i _ s), ?_⟩, ?_⟩ <;> rw [hf, resolve_enter]
  · exact ⟨rfl, rfl, rfl, rfl, rfl, rfl⟩
  · exact stores_write hs _ _

/-- What an instruction leaves that sets the flags to `fl`: they change, nothing else. -/
theorem ends_of_setFlags {i : Instr} {f : State → State} {s : State} {fl : Flags} (hx : exec i s = run i f s)
    (hf : f (enter i s) = (enter i s).setFlags fl) :
    ∃ t, Ends i s t s.a s.x s.y s.sp fl (nextPc i s) ∧ KeepsMemory s t := by
  refine ⟨_, ⟨hx.trans (run_eq i f s), ?_⟩, ?_⟩ <;> rw [hf]
  · exact ⟨rfl, rfl, rfl, rfl, rfl, rfl⟩
  · exact fun _ => rfl

end Sys2Proof.Machine

/-! ### The obligations -/

section
open Sys2Proof Sys2Proof.Machine Sys2Proof.Claims

/-- Settles O47: the three are one and the same load, each of its own register. -/
theorem loadsWriteRegisterAndNZ : Obligations.LoadsWriteRegisterAndNZ := by
  intro i s
  refine ⟨fun hi => ?_, fun hi => ?_, fun hi => ?_⟩
  · exact ends_of_load (put := (enter i s).setA) s (congrArg effectOf hi)
      (fun src => by rw [lda, sourceByte_enter]) fun _ => ⟨rfl, rfl, rfl⟩
  · exact ends_of_load (put := (enter i s).setX) s (congrArg effectOf hi)
      (fun src => by rw [ldx, sourceByte_enter]) fun _ => ⟨rfl, rfl, rfl⟩
  · exact ends_of_load (put := (enter i s).setY) s (congrArg effectOf hi)
      (fun src => by rw [ldy, sourceByte_enter]) fun _ => ⟨rfl, rfl, rfl⟩

/-- Settles O48: the three store their own register in the one operation. -/
theorem storesWriteOneByte : Obligations.StoresWriteOneByte := by
  rintro i s reg hs (⟨hi, rfl⟩ | ⟨hi, rfl⟩ | ⟨hi, rfl⟩) <;>
    exact ends_of_store hs (congrArg effectOf hi) fun _ => rfl

/-- Settles O49: five load a register with another one's byte; TXS writes `SP` of the entered state. -/
theorem transfersCopyRegisters : Obligations.TransfersCopyRegisters := by
  intro s
  exact ⟨ends_of_setNZ (u := (enter .tax s).setX s.a) (f := tax) rfl rfl rfl rfl rfl,
    ends_of_setNZ (u := (enter .tay s).setY s.a) (f := tay) rfl rfl rfl rfl rfl,
    ends_of_setNZ (u := (enter .txa s).setA s.x) (f := txa) rfl rfl rfl rfl rfl,
    ends_of_setNZ (u := (enter .tya s).setA s.y) (f := tya) rfl rfl rfl rfl rfl,
    ends_of_setNZ (u := (enter .tsx s).setX s.sp) (f := tsx) rfl rfl rfl rfl rfl,
    ⟨_, ⟨run_eq .txs txs s, rfl, rfl, rfl, rfl, rfl, rfl⟩, fun _ => rfl⟩⟩

/-- Settles O50: each sets the flags of the entered state, with its one flag at the new value. -/
theorem flagInstructionsWriteOneFlag : Obligations.FlagInstructionsWriteOneFlag := by
  intro s
  exact ⟨ends_of_setFlags (f := sec) rfl rfl, ends_of_setFlags (f := clc) rfl rfl,
    ends_of_setFlags (f := sei) rfl rfl, ends_of_setFlags (f := cli) rfl rfl,
    ends_of_setFlags (f := sed) rfl rfl, ends_of_setFlags (f := cld) rfl rfl,
    ends_of_setFlags (f := clv) rfl rfl⟩

/-- Settles O51: NOP has no effect in the common frame, whose base count is 2. -/
theorem nopOnlyAdvancesPc : Obligations.NopOnlyAdvancesPc := run_eq .nop id

end
end

section
/-! ### The family `60_exceptions`: `I`, `D` and `B` matter only where they are read -/

namespace Sys2Proof.Machine

open Sys2Proof.Claims

/-! ### Changing the stored flags

`withI`, `withB` and `withD` are cases of one change, so that the instructions are gone through once. -/

/-- What becomes of the three flags that no branch condition and no shift looks at; the default keeps them. -/
structure StoredChange where
  i : Bool → Bool := id
  d : Bool → Bool := id
  b : Bool → Bool := id

/-- The state with its `I`, `D` and `B` changed. -/
def State.changeStored (w : StoredChange) (s : State) : State :=
  s.setFlags { s.flags with i := w.i s.flags.i, d := w.d s.flags.d, b := w.b s.flags.b }

theorem withI_eq_changeStored (p : Bool) : withI p = State.changeStored { i := fun _ => p } := rfl
theorem withD_eq_changeStored (p : Bool) : withD p = State.changeStored { d := fun _ => p } := rfl
theorem withB_eq_changeStored (p : Bool) : withB p = State.changeStored { b := fun _ => p } := rfl

section
variable (w : StoredChange)

@[simp] theorem resolve_changeStored (m : MemMode) (s : State) : resolve m (s.changeStored w) = resolve m s :=
  resolve_congr m rfl rfl rfl

@[simp] theorem sourceByte_changeStored (src : Source) (s : State) :
    sourceByte src (s.changeStored w) = sourceByte src s := by
  cases src with
  | imm => rfl
  | mem m => exact congrArg s.read (congrArg Resolved.ea (resolve_changeStored w m s))

@[simp] theorem enter_changeStored (i : Instr) (s : State) :
    enter i (s.changeStored w) = (enter i s).changeStored w := by
  unfold enter
  cases i.mode with
  | mem m => cases m <;> rfl
  | _ => rfl

end

section
variable {w : StoredChange}

/-! ### Effects and instructions that commute with the change -/

/-- Of the three flags the adders look at `D`, to choose their mode (R104). -/
theorem changeStored_flags_d (hd : w.d = id) (s : State) : (s.changeStored w).flags.d = s.flags.d :=
  congrFun hd s.flags.d

theorem adc_changeStored (hd : w.d = id) (src : Source) (s : State) :
    adc src (s.changeStored w) = (adc src s).changeStored w := by
  simp only [adc, sourceByte_changeStored, changeStored_flags_d hd]
  split <;> rfl

theorem sbc_changeStored (hd : w.d = id) (src : Source) (s : State) :
    sbc src (s.changeStored w) = (sbc src s).changeStored w := by
  simp only [sbc, sourceByte_changeStored, changeStored_flags_d hd]
  split <;> rfl

/-- Setting `I`, the effect of SEI and CLI, commutes with a change that keeps `I`. -/
theorem withI_changeStored (hi : w.i = id) (p : Bool) (s : State) :
    withI p (s.changeStored w) = (withI p s).changeStored w := by
  simp only [withI_eq_changeStored, State.changeStored, hi]
  rfl

/-- Setting `D`, the effect of SED and CLD, commutes with a change that keeps `D`. -/
theorem withD_changeStored (hd : w.d = id) (p : Bool) (s : State) :
    withD p (s.changeStored w) = (withD p s).changeStored w := by
  simp only [withD_eq_changeStored, State.changeStored, hd]
  rfl

/-- An instruction whose effect commutes with the change does so itself. -/
theorem exec_changeStored_of_run {i : Instr} {f : State → State} {s t : State} (hx : ∀ s, exec i s = run i f s)
    (h : exec i s = .next t) (hf : f ((enter i s).changeStored w) = (f (enter i s)).changeStored w) :
    exec i (s.changeStored w) = .next (t.changeStored w) := by
  rw [hx, run_eq] at h
  cases h
  rw [hx, run_eq, enter_changeStored, hf]
  rfl

/-- A branch whose condition does not look at the change commutes with it, taken or not. -/
theorem exec_changeStored_of_branch {i : Instr} {off : Byte} {cond : Flags → Bool} {s t : State}
    (hx : ∀ s, exec i s = branch i off cond s) (h : exec i s = .next t)
    (hc : cond (s.changeStored w).flags = cond s.flags) : exec i (s.changeStored w) = .next (t.changeStored w) := by
  rw [hx] at h ⊢
  cases htaken : cond s.flags with
  | true =>
    rw [branch_taken i off htaken] at h
    cases h
    rw [branch_taken i off (hc.trans htaken), enter_changeStored]
    rfl
  | false =>
    rw [branch_not_taken i off htaken] at h
    cases h
    rw [branch_not_taken i off (hc.trans htaken), enter_changeStored]
    rfl

/-- Noninterference: an instruction that pushes or pulls no status byte does the same before a change of `I`, `D` and
`B` as after it, where the change keeps `I` if the instruction writes `I`, and `D` if it reads or writes `D`. -/
theorem exec_changeStored {i : Instr} {s t : State} (h : exec i s = .next t)
    (hstatus : i.mnemonic ∉ [.php, .plp, .brk, .rti])
    (hi : i.mnemonic ∈ [.sei, .cli] → w.i = id) (hd : i.mnemonic ∈ [.adc, .sbc, .sed, .cld] → w.d = id) :
    exec i (s.changeStored w) = .next (t.changeStored w) := by
  cases hm : i.mnemonic with
  | php | plp | brk | rti => simp [hm] at hstatus
  | adc =>
    obtain ⟨src, -, hx⟩ := exec_of_source (congrArg effectOf hm)
    exact exec_changeStored_of_run hx h (adc_changeStored (hd (by simp [hm])) src _)
  | sbc =>
    obtain ⟨src, -, hx⟩ := exec_of_source (congrArg effectOf hm)
    exact exec_changeStored_of_run hx h (sbc_changeStored (hd (by simp [hm])) src _)
  | sei | cli =>
    obtain ⟨-, hx⟩ := exec_of_nothing (congrArg effectOf hm)
    exact exec_changeStored_of_run hx h (withI_changeStored (hi (by simp [hm])) _ _)
  | sed | cld =>
    obtain ⟨-, hx⟩ := exec_of_nothing (congrArg effectOf hm)
    exact exec_changeStored_of_run hx h (withD_changeStored (hd (by simp [hm])) _ _)
  | and | ora | eor | bit | cmp | cpx | cpy | lda | ldx | ldy =>
    obtain ⟨src, -, hx⟩ := exec_of_source (congrArg effectOf hm)
    refine exec_changeStored_of_run hx h ?_
    simp only [andA, oraA, eorA, bitTest, cmp, cpx, cpy, compareWith, lda, ldx, ldy, sourceByte_changeStored]
    rfl
  | asl | lsr | rol | ror =>
    obtain ⟨tg, -, hx⟩ := exec_of_target (congrArg effectOf hm)
    refine exec_changeStored_of_run hx h ?_
    cases tg with
    | acc => rfl
    | mem m =>
      simp only [asl, lsr, rol, ror, storeShift, targetByte, targetPut, resolve_changeStored]
      rfl
  | sta | stx | sty | inc | dec | jmp =>
    obtain ⟨m, -, hx⟩ := exec_of_memory (congrArg effectOf hm)
    refine exec_changeStored_of_run hx h ?_
    simp only [sta, stx, sty, inc, dec, addToMemory, jump, resolve_changeStored]
    rfl
  | bcc | bcs | beq | bne | bmi | bpl | bvc | bvs =>
    obtain ⟨off, -, hx⟩ := exec_of_offset (congrArg effectOf hm)
    exact exec_changeStored_of_branch hx h rfl
  | jsr =>
    obtain ⟨addr, -, hx⟩ := exec_of_absolute (congrArg effectOf hm)
    exact exec_changeStored_of_run hx h rfl
  | _ =>
    obtain ⟨-, hx⟩ := exec_of_nothing (congrArg effectOf hm)
    exact exec_changeStored_of_run hx h rfl

end

end Sys2Proof.Machine

/-! ### The obligations -/

section
open Sys2Proof Sys2Proof.Machine Sys2Proof.Claims

/-- Settles O59: each clause changes one flag and keeps the two others, and its list excludes what looks at that one. -/
theorem storedFlagsMatterOnlyWhereRead : Obligations.StoredFlagsMatterOnlyWhereRead := by
  intro i s t p h
  rw [withI_eq_changeStored, withB_eq_changeStored, withD_eq_changeStored]
  refine ⟨fun hm => ?_, fun hm => ?_, fun hm => ?_⟩
  · exact exec_changeStored h (fun hst => hm (List.mem_append_right [Mnemonic.sei, Mnemonic.cli] hst))
      (fun hwr => absurd (List.mem_append_left _ hwr) hm) fun _ => rfl
  · exact exec_changeStored h hm (fun _ => rfl) fun _ => rfl
  · exact exec_changeStored h
      (fun hst => hm (List.mem_append_right [Mnemonic.adc, Mnemonic.sbc, Mnemonic.sed, Mnemonic.cld] hst))
      (fun _ => rfl) fun hrw => absurd (List.mem_append_left _ hrw) hm

end
end

section
/-! ### The family `70_reset_and_hazards`, and the rules about every step: encoding and decoding, when a step completes
and what it reports, canonical memory, pairs of instructions that undo each other, reset and launch -/

namespace Sys2Proof

/-! ### Decoding what the encoder wrote -/

/-- The decoder completes the form of the first byte with the bytes after it (R50). -/
theorem decode_of_formOf {op : Byte} {f : Form} (h : formOf op = some f) (bs : List Byte) :
    decode (op :: bs) = f.complete bs := by
  rw [decode, h]

/-- The row that the decoder finds for an instruction's opcode takes as many operand bytes as the encoder wrote, and
puts them together again. -/
theorem decode_encode {i : Instr} (hwf : WellFormed i = true) (rest : List Byte) :
    decode (encode i ++ rest) = .ok i rest := by
  rw [encode, List.cons_append]
  obtain ⟨-, -, hform⟩ := Laws.encoding_holds i
  obtain ⟨hbytes, hrow⟩ | ⟨g, b, hbytes, hrow, rfl⟩ | ⟨g, a, hbytes, hrow, rfl⟩ := hform hwf
  · rw [decode_of_formOf hrow, hbytes, List.nil_append, Form.complete_bare]
  · rw [decode_of_formOf hrow, hbytes, List.singleton_append, Form.complete_byte]
  · rw [decode_of_formOf hrow, hbytes, List.cons_append, List.singleton_append, Form.complete_word, pair_bytes]

end Sys2Proof

namespace Sys2Proof.Machine

open Sys2Proof.Claims

/-! ### Cycle counts -/

/-- The counts of R54's table and its page-penalty marks, row by row. -/
theorem baseCycles_bounds (i : Instr) : 2 ≤ i.baseCycles ∧ i.baseCycles + i.pagePenalty.toNat ≤ 7 := by
  cases i <;> exact of_decide_eq_true rfl

/-- The count of R71: a page crossing costs one cycle more at most, and only where the row is marked. -/
theorem cycleCount_bounds (i : Instr) (crossed : Bool) : 2 ≤ cycleCount i crossed ∧ cycleCount i crossed ≤ 7 := by
  obtain ⟨hlow, hhigh⟩ := baseCycles_bounds i
  have hextra : (if i.pagePenalty && crossed then 1 else 0) ≤ i.pagePenalty.toNat := by
    cases i.pagePenalty <;> cases crossed <;> decide
  rw [cycleCount]
  omega

/-- The count of R72. -/
theorem branchCycles_bounds (taken crossed : Bool) :
    2 ≤ branchCycles taken crossed ∧ branchCycles taken crossed ≤ 7 := by
  revert taken crossed
  decide

/-! ### When an instruction and a step complete -/

/-- Both ways of running, with an effect and as a branch, answer a next state and a count (R200, R224). -/
theorem exec_completes (i : Instr) (s : State) :
    ∃ t, exec i s = .next t ∧ ∃ n, t.cycles = some n ∧ 2 ≤ n ∧ n ≤ 7 := by
  obtain ⟨e, -, hx⟩ := exec_effect i
  cases e with
  | plain f => exact ⟨_, (hx s).trans (run_eq i f s), _, rfl, cycleCount_bounds i _⟩
  | branch off cond =>
    cases hcond : cond s.flags with
    | true => exact ⟨_, (hx s).trans (branch_taken i off hcond), _, rfl, branchCycles_bounds true _⟩
    | false => exact ⟨_, (hx s).trans (branch_not_taken i off hcond), _, rfl, branchCycles_bounds false _⟩

/-- Fetching fails exactly on the bytes of R55's list. -/
theorem fetch_eq_none_iff {s : State} : fetch s = none ↔ s.read s.pc ∈ unassignedBytes :=
  decodeWindow_eq_none.trans formOf_eq_none_iff

/-- A step that completes has run the fetched instruction. -/
theorem exec_of_step_next {s t : State} (h : step s = .next t) : ∃ i, exec i s = .next t := by
  cases hfetch : fetch s with
  | some i => exact ⟨i, (step_of_fetch hfetch).symm.trans h⟩
  | none => cases (step_of_no_fetch hfetch).symm.trans h

/-- A step that faults has fetched no instruction, for an instruction does not fault: it leaves the state of R201. -/
theorem eq_afterInvalidOpcode_of_step_fault {s t : State} {op : Byte} (h : step s = .fault (.invalidOpcode op t)) :
    t = s.afterInvalidOpcode := by
  cases hfetch : fetch s with
  | some i =>
    obtain ⟨u, hu, -⟩ := exec_completes i s
    cases (hu.symm.trans (step_of_fetch hfetch).symm).trans h
  | none =>
    cases (step_of_no_fetch hfetch).symm.trans h
    rfl

/-! ### Canonical memory -/

/-- Every transition keeps memory canonical: those that write it do so by writes and pushes, and every other one is made
of setters of registers and flags. -/
theorem Transition.inv {md : Mode} {m : Mnemonic} {s t : State} (h : Transition md s m t) (hs : s.Inv) : t.Inv := by
  cases h with
  | store ea v => exact Memory.write_wf hs ea v
  | count d mm => exact Memory.write_wf hs _ _
  | shift tg r =>
    cases tg with
    | acc => exact hs
    | mem mm => exact Memory.write_wf hs _ r
  | push v => exact State.push_wf hs v
  | jsr => exact State.pushWord_wf hs _
  | brk => exact State.takeBreak_wf hs
  | _ => exact hs

/-- Every instruction keeps memory canonical. -/
theorem exec_inv {i : Instr} {s t : State} (hs : s.Inv) (h : exec i s = .next t) : t.Inv := by
  obtain ⟨u, k, hu, rfl⟩ := exec_next h
  exact hu.inv hs

/-! ### Pairs of instructions that undo each other -/

theorem execAll_pair {i j : Instr} {s t u : State} (hi : exec i s = .next t) (hj : exec j t = .next u) :
    execAll [i, j] s = .next u :=
  (execAll_cons hi [j]).trans (execAll_cons hj [])

/-- A word is what its two bytes give, in the statements' terms. -/
@[simp] theorem word_high_low (w : Word) : word (high w) (low w) = w := by
  rw [word_eq_pair, ← hiByte_eq_high, ← loByte_eq_low, pair_bytes]

/-- The flags of a status byte are those it was made of, in the statements' terms (R17). -/
@[simp] theorem flagsOf_statusByte (f : Flags) : flagsOf (statusByte f) = f := by
  rw [← pack_eq_statusByte]
  exact unpack_pack f

/-! The offsets that two and three pulls read at after as many pushes. -/

theorem sub_two_add_one (p : Byte) : p - 2 + 1 = p - 1 := sub_add p 2 1

theorem sub_three_add_one (p : Byte) : p - 3 + 1 = p - 2 := sub_add p 3 1

theorem sub_three_add_two (p : Byte) : p - 3 + 2 = p - 1 := sub_add p 3 2

end Sys2Proof.Machine

/-! ### The obligations -/

section
open Sys2Proof Sys2Proof.Machine Sys2Proof.Claims

/-- Settles O3: the decoder's row for the opcode of a well-formed instruction takes back the operand bytes. -/
theorem decodeOfEncodeIsTheInstruction : Obligations.DecodeOfEncodeIsTheInstruction :=
  fun _ rest hwf => decode_encode hwf rest

/-- Settles O5: every row of the decoder's table makes well-formed instructions, encoded by what was read. -/
theorem encodeOfDecodeIsTheBytes : Obligations.EncodeOfDecodeIsTheBytes :=
  fun _ _ _ h => (encode_of_decode h).symm

/-- Settles O10: a completed step is a transition, and one that faults does not touch memory. -/
theorem stepKeepsMemoryCanonical : Obligations.StepKeepsMemoryCanonical := by
  intro s hs
  refine ⟨fun t h => ?_, fun op t h => ?_⟩
  · obtain ⟨i, hi⟩ := exec_of_step_next h
    exact exec_inv hs hi
  · rw [eq_afterInvalidOpcode_of_step_fault h]
    exact hs

/-- Settles O54: a completed step is an instruction, and each reports the count of R71 or of R72. -/
theorem stepReportsTwoToSevenCycles : Obligations.StepReportsTwoToSevenCycles := by
  intro s t h
  obtain ⟨i, hi⟩ := exec_of_step_next h
  obtain ⟨u, hu, hcycles⟩ := exec_completes i s
  cases hu.symm.trans hi
  exact hcycles

/-- Settles O7: no instruction is fetched, and the step leaves the state of R201. -/
theorem unassignedOpcodeStepFaults : Obligations.UnassignedOpcodeStepFaults :=
  fun _ h => step_of_no_fetch (fetch_eq_none_iff.2 h)

/-- Settles O8: an instruction is fetched, and it completes. -/
theorem assignedOpcodeStepCompletes : Obligations.AssignedOpcodeStepCompletes := by
  intro s h
  obtain ⟨i, hfetch⟩ := Option.ne_none_iff_exists'.1 (mt fetch_eq_none_iff.1 h)
  obtain ⟨t, ht, -⟩ := exec_completes i s
  exact ⟨t, (step_of_fetch hfetch).trans ht⟩

/-- Settles O44: the pull reads at the offset where the push stored. -/
theorem pullUndoesPush : Obligations.PullUndoesPush := by
  intro s hs
  obtain ⟨⟨t, ⟨hpha, -, -, -, hsp, -, -⟩, hA, -⟩, ⟨t', ⟨hphp, -, -, -, hsp', -, -⟩, hP, -⟩⟩ :=
    pushesStoreAtStackPointer s hs
  obtain ⟨⟨u, ⟨hpla, huA, -, -, husp, -, -⟩, -⟩, -⟩ := pullsReadAboveStackPointer t
  obtain ⟨-, ⟨u', ⟨hplp, -, -, -, husp', huP, -⟩, -⟩⟩ := pullsReadAboveStackPointer t'
  rw [hsp, sub_add_cancel] at huA husp
  rw [hsp', sub_add_cancel] at huP husp'
  refine ⟨⟨u, execAll_pair hpha hpla, huA.trans hA, husp⟩, ⟨u', execAll_pair hphp hplp, ?_, husp'⟩⟩
  rw [huP, hP, flagsOf_statusByte]

/-- Settles O45: RTS reads the two bytes of `PC` + 2 where JSR stored them, and goes one above. -/
theorem rtsReturnsAfterJsr : Obligations.RtsReturnsAfterJsr := by
  intro s addr hs
  obtain ⟨t, ⟨hjsr, ha, hx, hy, hsp, hf, -⟩, hhigh, hlow, -⟩ := jsrPushesReturnAddressAndJumps s addr hs
  obtain ⟨u, ⟨hrts, hua, hux, huy, husp, huf, hupc⟩, -⟩ := rtsReturnsAbovePulledAddress t
  rw [hsp, sub_add_cancel] at husp
  rw [hsp, sub_add_cancel, sub_two_add_one, hhigh, hlow, word_high_low] at hupc
  exact ⟨u, execAll_pair hjsr hrts, hupc.trans (add_assoc s.pc 2 1), husp, huf.trans hf, hua.trans ha, hux.trans hx,
    huy.trans hy⟩

/-- Settles O46: RTI reads the status byte and the two bytes of `PC` + 2 where BRK stored them; BRK set `B` before it
pushed the flags, and `I` only after. -/
theorem rtiReturnsAfterBrk : Obligations.RtiReturnsAfterBrk := by
  intro s hs
  obtain ⟨t, ⟨hbrk, ha, hx, hy, hsp, -, -⟩, hhigh, hlow, hstatus, -⟩ := brkTakesTheTrap s hs
  obtain ⟨u, ⟨hrti, hua, hux, huy, husp, huf, hupc⟩, -⟩ := rtiRestoresFlagsAndPc t
  rw [hsp, sub_add_cancel] at husp
  rw [hsp, sub_three_add_one, hstatus, flagsOf_statusByte] at huf
  rw [hsp, sub_add_cancel, sub_three_add_two, hhigh, hlow, word_high_low] at hupc
  exact ⟨u, execAll_pair hbrk hrti, hupc, husp, huf, hua.trans ha, hux.trans hx, huy.trans hy⟩

/-- Settles O1: the decoded window is what fetching answers. -/
theorem stepRunsDecodedInstruction : Obligations.StepRunsDecodedInstruction :=
  fun _ _ _ h => step_of_fetch (by rw [fetch, decodeWindow, h])

/-- Settles O9: an instruction completes, whatever its count. -/
theorem everyInstructionCompletes : Obligations.EveryInstructionCompletes := by
  intro i s
  obtain ⟨t, ht, -⟩ := exec_completes i s
  exact ⟨t, ht⟩

/-- Settles O11: the reset state lists no cell, and a launch clears `page_crossed`. -/
theorem resetMemoryIsCanonical : Obligations.ResetMemoryIsCanonical := ⟨rfl, rfl⟩

/-- Settles O12: a launch copies what the host supplies, field by field. -/
theorem launchStateIsTheHosts : Obligations.LaunchStateIsTheHosts :=
  fun _ _ _ _ _ _ _ => ⟨rfl, rfl, rfl, rfl, rfl, rfl, rfl, rfl⟩

end
end
